-- ==== Sys2Proof/Word.lean ====
section
/-! DEFINITION. Words of the LD4: the byte of its lines and the station number. -/

namespace Sys2Proof

/-- One byte of a wand, link or printer line (R2, R161, R172). -/
abbrev Byte := BitVec 8

/-- A station, 0 to 3 (Scan Path). -/
abbrev Station := Fin 4

/-- One of a thing for each station. -/
abbrev PerStation (α : Type) := Vector α 4

end Sys2Proof
end

