-- ==== Sys2Proof/Machine/Bytes.lean ====
section
/-! DEFINITION. Byte order, two's complement, the CRC-16 and decimal digits: the helpers the formats of the service link rest on (R185). -/

namespace Sys2Proof.Machine

/-- The low `n` bytes of `v`, most significant first (R185). -/
def beBytes : Nat → Nat → List Byte
  | 0, _ => []
  | n + 1, v => BitVec.ofNat 8 (v / 256 ^ n) :: beBytes n v

/-- The number some bytes spell, most significant first (R185). -/
def beNat (bs : List Byte) : Nat := bs.foldl (fun acc b => acc * 256 + b.toNat) 0

/-- The bytes `[start, start + len)` of a layout, as a number. -/
def beField (bs : List Byte) (start len : Nat) : Nat := beNat ((bs.drop start).take len)

/-- One byte of a layout, 0 past its end. -/
def byteAt (bs : List Byte) (i : Nat) : Nat := (bs.getD i 0).toNat

/-- The byte of a number. -/
def byte (v : Nat) : Byte := BitVec.ofNat 8 v

/-- A mark or yes-or-no field (Table 15: 1 for set or yes, 0 for clear or no). -/
def markByte (b : Bool) : Byte := if b then 1 else 0

/-- The signed value that `width` bits of two's complement hold (R185). -/
def signedOf (width v : Nat) : Int := if v < 2 ^ (width - 1) then v else (v : Int) - 2 ^ width

/-- The `width` bits of two's complement of a signed value (R185). -/
def twosOf (width : Nat) (i : Int) : Nat := (i % (2 ^ width : Int)).toNat

/-- One step of the CRC-16 register: the generator x^16 + x^12 + x^5 + 1, most significant bit first (R185). -/
def crcBit (crc : Nat) : Nat :=
  if crc < 32768 then crc * 2 else Nat.xor (crc * 2 - 65536) 0x1021

/-- The register after one byte (R185). -/
def crcByte (crc : Nat) (b : Byte) : Nat :=
  crcBit (crcBit (crcBit (crcBit (crcBit (crcBit (crcBit (crcBit (Nat.xor crc (b.toNat * 256)))))))))

/-- The initial value of the register (R185). -/
def crcInit : Nat := 0xFFFF

/-- The register run on over some bytes. -/
def crcOver (crc : Nat) (bs : List Byte) : Nat := bs.foldl crcByte crc

/-- The CRC-16 of some bytes, the register started once and taken with no final inversion (R185). -/
def crc16 (bs : List Byte) : Nat := crcOver crcInit bs

/-- The byte of a printed character. -/
def ascii (cs : List Char) : List Byte := cs.map fun c => byte c.toNat

/-- The byte of one decimal digit. -/
def digit (d : Nat) : Byte := byte (48 + d % 10)

/-- The last `n` decimal digits of `v`, leading zeros included. -/
def digits : Nat → Nat → List Byte
  | 0, _ => []
  | n + 1, v => digits n (v / 10) ++ [digit v]

/-- How many decimal digits a number takes, at most `fuel`. -/
def digitCount : Nat → Nat → Nat
  | 0, _ => 0
  | fuel + 1, v => if v < 10 then 1 else 1 + digitCount fuel (v / 10)

/-- A number in decimal without leading zeros, up to 14 digits (R160). -/
def decimal (v : Nat) : List Byte := digits (digitCount 14 v) v

end Sys2Proof.Machine
end

