-- ==== Sys2Proof/Syntax.lean ====
section
/-! DEFINITION. The commands of the LD4: one constructor for each row of spec/opcode_table.json, and the request frames (Table 14) that some of them carry. -/

namespace Sys2Proof

/-- Debounced selector position (R24). -/
inductive SelectorLevel
  | loan
  | returns
  deriving DecidableEq, Repr

/-- What a power loss leaves in the slot whose write it cuts (R143, log 7): nothing, a torn slot, or the whole record. -/
inductive SlotCut
  | blank
  | torn
  | whole
  deriving DecidableEq, Repr

/-- A request frame of Table 14, its payload split into the fields of the table. Fields are kept as the bytes of the frame, so that
every value a frame can carry can be asked for, in range or not. -/
inductive Request
  | statusRead (sect clear : Byte)
  | access (code : BitVec 32)
  | leave
  | clockSet (day minute : BitVec 16)
  | clockAdjust (minutes : Byte)
  | stationControl (station action mode : Byte)
  | configure (record : List Byte)
  | configureRead
  | beginTable (table : Byte) (count : BitVec 16)
  | loadEntries (table count : Byte) (entries : List Byte)
  | endTable (table : Byte) (crc : BitVec 16)
  | abortLoad (table : Byte)
  | copyTable (table : Byte)
  | commitSet (s : BitVec 32)
  | patchBorrower (operation : Byte) (card : BitVec 48) (operand : List Byte)
  | patchItem (operation : Byte) (item : BitVec 48) (operand : List Byte)
  | readEntry (source table : Byte) (key : BitVec 48)
  | journalRead (s : BitVec 32)
  | journalRelease (s : BitVec 32)
  | printerControl (action : Byte)
  | clearConditions (mask : BitVec 32)
  | setProtection (patchMask loadMask : Byte) (low high : BitVec 48) (complement lock : Byte)
  | setCodes (level1 level2 : BitVec 32)
  | setCodesEmpty
  | restart
  deriving DecidableEq, Repr

/-- The commands the LD4 takes, in the order of spec/opcode_table.json. -/
inductive Instr
  | wandCharacterComplete (station : Station) (data : Byte) (parity stop : Bool)
  | wandWaitMarkEnd (station : Station)
  | assemblerStep (station : Station)
  | gapTimerExpiry (station : Station)
  | selectorChange (station : Station) (level : SelectorLevel)
  | paperOutChange (out : Bool)
  | maintenanceChange (asserted : Bool)
  | outcomePatternTimer (station : Station)
  | outcomePatternEnd (station : Station)
  | arbiterGrant
  | idleTimerExpiry (station : Station)
  | staffWindowExpiry (station : Station)
  | slipWaitExpiry (station : Station)
  | slipReoffer (station : Station)
  | journalTurn
  | recordWriteCompletion
  | replayEnd
  | eraseStart
  | eraseComplete
  | copyEnd
  | validationEnd
  | configureStoreComplete
  | timebaseEdge
  | timebaseLoss
  | printerByteAccepted
  | printerReadyChange (ready : Bool)
  | printerStallExpiry
  | linkCharacter (value : Byte) (stop : Bool)
  | linkGapTimeout
  | linkWaitMarkEnd
  | linkBreak
  | unknownRequest (type : Byte) (payload : List Byte)
  | statusRead (sect clear : Byte)
  | access (code : BitVec 32)
  | leave
  | clockSet (day minute : BitVec 16)
  | clockAdjust (minutes : Byte)
  | stationControlSetMode (station mode : Byte)
  | stationControlCloseSession (station mode : Byte)
  | configure (record : List Byte)
  | configureRead
  | beginTable (table : Byte) (count : BitVec 16)
  | loadEntries (table count : Byte) (entries : List Byte)
  | endTable (table : Byte) (crc : BitVec 16)
  | abortLoad (table : Byte)
  | copyTable (table : Byte)
  | commitSet (s : BitVec 32)
  | patchBorrowerSetFlags (card : BitVec 48) (mask : Byte)
  | patchBorrowerClearFlags (card : BitVec 48) (mask : Byte)
  | patchBorrowerSetFines (card : BitVec 48) (fines : BitVec 16)
  | patchBorrowerSetExpiry (card : BitVec 48) (day : BitVec 16)
  | patchBorrowerInsert (card : BitVec 48) (entry : List Byte)
  | patchBorrowerDelete (card : BitVec 48)
  | patchItemInsert (item : BitVec 48) (entry : List Byte)
  | patchItemDelete (item : BitVec 48)
  | patchItemSetState (item : BitVec 48) (state : Byte) (holdCard : BitVec 48) (holdExpiry : BitVec 16)
  | readEntryLiveTable (table : Byte) (key : BitVec 48)
  | readEntryLocalLoanList (table : Byte) (key : BitVec 48)
  | journalRead (s : BitVec 32)
  | journalRelease (s : BitVec 32)
  | printerControlStop
  | printerControlResume
  | printerControlAbort
  | printerControlReprint
  | clearConditions (mask : BitVec 32)
  | setProtection (patchMask loadMask : Byte) (low high : BitVec 48) (complement lock : Byte)
  | setCodes (level1 level2 : BitVec 32)
  | setCodesEmpty
  | restart
  | transmitFrameStart
  | transmitFrameEnd
  | powerOn
  | resetLineAssert
  | resetEntered
  | resetLineRelease
  | recoveryComplete
  | powerLoss (slot : SlotCut) (configureStored : Bool)
  | wandCharacterStart (station : Station)
  deriving DecidableEq, Repr

end Sys2Proof
end

