-- ==== Sys2Proof/Decode.lean ====
section
/-! DEFINITION. The decoder of the opcode table's words (no row has bits) and the decoder and encoder of the request frames of Table 14. -/

namespace Sys2Proof

/-- The command a word of the opcode table's bits spells: no row of the table gives bits, so no word spells one. -/
def decodeTableWord (_nbits _w : Nat) : Option Instr := none

open Machine (beNat beBytes byte)

/-- The request type byte of Table 14. -/
def Request.typeCode : Request → Nat
  | .statusRead .. => 0x01
  | .access .. => 0x02
  | .leave => 0x03
  | .clockSet .. => 0x04
  | .clockAdjust .. => 0x05
  | .stationControl .. => 0x06
  | .configure .. => 0x07
  | .configureRead => 0x07
  | .beginTable .. => 0x08
  | .loadEntries .. => 0x09
  | .endTable .. => 0x0A
  | .abortLoad .. => 0x0B
  | .copyTable .. => 0x0C
  | .commitSet .. => 0x0D
  | .patchBorrower .. => 0x0E
  | .patchItem .. => 0x0F
  | .readEntry .. => 0x10
  | .journalRead .. => 0x11
  | .journalRelease .. => 0x12
  | .printerControl .. => 0x13
  | .clearConditions .. => 0x14
  | .setProtection .. => 0x15
  | .setCodes .. => 0x16
  | .setCodesEmpty => 0x16
  | .restart => 0x17

/-- The access level of a request type (Table 14), or none when the type is not in the table. -/
def requestLevel (type : Nat) : Option Nat :=
  match type with
  | 0x01 | 0x02 | 0x03 => some 0
  | 0x05 | 0x06 | 0x0E | 0x0F | 0x10 | 0x11 | 0x13 | 0x14 => some 1
  | 0x04 | 0x07 | 0x08 | 0x09 | 0x0A | 0x0B | 0x0C | 0x0D | 0x12 | 0x15 | 0x16 | 0x17 => some 2
  | _ => none

/-- The payload of a request frame (Table 14, Table 16). -/
def Request.payload : Request → List Byte
  | .statusRead sect clear => [sect, clear]
  | .access code => beBytes 4 code.toNat
  | .leave => []
  | .clockSet day minute => beBytes 2 day.toNat ++ beBytes 2 minute.toNat
  | .clockAdjust minutes => [minutes]
  | .stationControl station action mode => [station, action, mode]
  | .configure record => record
  | .configureRead => []
  | .beginTable table count => table :: beBytes 2 count.toNat
  | .loadEntries table count entries => table :: count :: entries
  | .endTable table crc => table :: beBytes 2 crc.toNat
  | .abortLoad table => [table]
  | .copyTable table => [table]
  | .commitSet s => beBytes 4 s.toNat
  | .patchBorrower operation card operand => operation :: (beBytes 6 card.toNat ++ operand)
  | .patchItem operation item operand => operation :: (beBytes 6 item.toNat ++ operand)
  | .readEntry source table key => source :: table :: beBytes 6 key.toNat
  | .journalRead s => beBytes 4 s.toNat
  | .journalRelease s => beBytes 4 s.toNat
  | .printerControl action => [action]
  | .clearConditions mask => beBytes 4 mask.toNat
  | .setProtection patchMask loadMask low high complement lock =>
    patchMask :: loadMask :: (beBytes 6 low.toNat ++ beBytes 6 high.toNat ++ [complement, lock])
  | .setCodes level1 level2 => beBytes 4 level1.toNat ++ beBytes 4 level2.toNat
  | .setCodesEmpty => []
  | .restart => []

/-- What a frame's type and payload spell. -/
inductive Parsed
  | unknown
  | misfit
  | request (r : Request)
  deriving DecidableEq, Repr

/-- Number fields of a payload. -/
def field16 (bs : List Byte) : BitVec 16 := BitVec.ofNat 16 (beNat bs)
def field32 (bs : List Byte) : BitVec 32 := BitVec.ofNat 32 (beNat bs)
def field48 (bs : List Byte) : BitVec 48 := BitVec.ofNat 48 (beNat bs)

/-- The length of the operand of a borrower patch operation (Table 16), none for an unknown operation. -/
def borrowerOperandLength (operation : Nat) : Option Nat :=
  match operation with
  | 0 | 1 => some 1
  | 2 | 3 => some 2
  | 4 => some 16
  | 5 => some 0
  | _ => none

/-- The length of the operand of an item patch operation (Table 16), none for an unknown operation. -/
def itemOperandLength (operation : Nat) : Option Nat :=
  match operation with
  | 0 => some 16
  | 1 => some 0
  | 2 => some 9
  | _ => none

/-- A patch payload: operation, key, operand. One too short to hold its key fits only when its operation is unknown (R186). -/
def parsePatch (lengths : Nat → Option Nat) (make : Byte → BitVec 48 → List Byte → Request) : List Byte → Parsed
  | [] => .misfit
  | op :: rest =>
    if 6 ≤ rest.length then .request (make op (field48 (rest.take 6)) (rest.drop 6))
    else if (lengths op.toNat).isNone then .request (make op 0 [])
    else .misfit

/-- The request that a frame of the given type and payload is. `misfit` is a type of Table 14 whose payload is of no length that
fits; `unknown` a type that is not in Table 14 (R175). The lengths that depend on the state (Load Entries) or on the operation (the
patches) and the length of a configuration record are judged when the request is served. -/
def parseRequest (type : Nat) (p : List Byte) : Parsed :=
  match type with
  | 0x01 => match p with
    | [a, b] => .request (.statusRead a b)
    | _ => .misfit
  | 0x02 => if p.length = 4 then .request (.access (field32 p)) else .misfit
  | 0x03 => if p.length = 0 then .request .leave else .misfit
  | 0x04 => if p.length = 4 then .request (.clockSet (field16 (p.take 2)) (field16 (p.drop 2))) else .misfit
  | 0x05 => match p with
    | [a] => .request (.clockAdjust a)
    | _ => .misfit
  | 0x06 => match p with
    | [a, b, c] => .request (.stationControl a b c)
    | _ => .misfit
  | 0x07 => match p with
    | [] => .request .configureRead
    | _ => .request (.configure p)
  | 0x08 => match p with
    | a :: rest => if rest.length = 2 then .request (.beginTable a (field16 rest)) else .misfit
    | _ => .misfit
  | 0x09 => match p with
    | a :: b :: rest => .request (.loadEntries a b rest)
    | [a] => if 7 < a.toNat then .request (.loadEntries a 0 []) else .misfit
    | _ => .misfit
  | 0x0A => match p with
    | a :: rest => if rest.length = 2 then .request (.endTable a (field16 rest)) else .misfit
    | _ => .misfit
  | 0x0B => match p with
    | [a] => .request (.abortLoad a)
    | _ => .misfit
  | 0x0C => match p with
    | [a] => .request (.copyTable a)
    | _ => .misfit
  | 0x0D => if p.length = 4 then .request (.commitSet (field32 p)) else .misfit
  | 0x0E => parsePatch borrowerOperandLength .patchBorrower p
  | 0x0F => parsePatch itemOperandLength .patchItem p
  | 0x10 => match p with
    | a :: b :: rest => if rest.length = 6 then .request (.readEntry a b (field48 rest)) else .misfit
    | _ => .misfit
  | 0x11 => if p.length = 4 then .request (.journalRead (field32 p)) else .misfit
  | 0x12 => if p.length = 4 then .request (.journalRelease (field32 p)) else .misfit
  | 0x13 => match p with
    | [a] => .request (.printerControl a)
    | _ => .misfit
  | 0x14 => if p.length = 4 then .request (.clearConditions (field32 p)) else .misfit
  | 0x15 => match p with
    | a :: b :: rest =>
      if rest.length = 14 then
        .request (.setProtection a b (field48 (rest.take 6)) (field48 ((rest.drop 6).take 6)) (rest.getD 12 0) (rest.getD 13 0))
      else .misfit
    | _ => .misfit
  | 0x16 =>
    if p.length = 0 then .request .setCodesEmpty
    else if p.length = 8 then .request (.setCodes (field32 (p.take 4)) (field32 (p.drop 4)))
    else .misfit
  | 0x17 => if p.length = 0 then .request .restart else .misfit
  | _ => .unknown

end Sys2Proof
end

