-- ==== Sys2Proof/Config.lean ====
section
/-! DEFINITION. The fixed capacities of the part, and the values the manual leaves open: opaque functions, so that nothing proved of the model rests on what they are. -/

namespace Sys2Proof.Config

/-- Character FIFO entries (R3). -/
def fifoDepth : Nat := 16
/-- Scan queue records (R18). -/
def scanQueueDepth : Nat := 4
/-- Characters of the symbol buffer (R6). -/
def symbolLength : Nat := 32
/-- Granted list entries (R54). -/
def grantedLength : Nat := 24
/-- Local Loan List entries (R64). -/
def loanListLength : Nat := 1024
/-- Journal slots, pages, and slots to a page (R130). -/
def slotCount : Nat := 4096
def pageCount : Nat := 128
def pageSlots : Nat := 32
/-- The loan reserve (R134). -/
def loanReserve : Nat := 64
/-- Slip queue records (R156). -/
def slipQueueDepth : Nat := 4
/-- Response queue frames (R175). -/
def responseDepth : Nat := 4
/-- The last desk day (Conventions, Day number). -/
def lastDay : Nat := 36524
/-- The day field of an undated record (Conventions, Day number). -/
def undated : Nat := 65535
/-- The greatest identity number (Conventions, Identity numbers). -/
def maxIdentity : Nat := 99999999999999
/-- The greatest sequence number (R127). -/
def maxSequence : Nat := 4294967295
/-- Steps of a roll (R85, R86). -/
def rollLimit : Nat := 21

/-- Free value (log 24): the declared count Status Read section 2 shows for a table that is not LOADING, by draw and table number. -/
opaque absentCount : Nat → Nat → BitVec 16
/-- Free value (log 24): the pointer Status Read section 2 shows for a table that is not LOADING, by draw and table number. -/
opaque absentPointer : Nat → Nat → BitVec 16
/-- Free value (log 24): the copy point Status Read section 2 shows for a table without one, by draw and table number. -/
opaque absentCopyPoint : Nat → Nat → BitVec 32
/-- Free value (log 42): the station bits Status Read section 1 shows in a place of the slip queue that holds no slip, by draw and place. -/
opaque emptyPlaceStation : Nat → Nat → BitVec 4
/-- Free value (log 25): the next sequence field of Status Read section 3 once the last complete sequence is 4 294 967 295,
whose successor does not fit the field, by draw. -/
opaque exhaustedNextSequence : Nat → BitVec 32

end Sys2Proof.Config
end

