-- ==== Sys2Proof/Machine/State.lean ====
section
/-! DEFINITION. The state of the LD4, block by block as spec/ tables it, the reasons a step could stop, and the state at reset. -/

namespace Sys2Proof.Machine

/-- Reasons for a fault. The spec names no event that stops the part, so there is none: nobody raises a fault (safe: nothing is
claimed of a stop that cannot come). -/
inductive Fault : Type
  deriving DecidableEq, Repr

/-- Reasons for a refusal. -/
inductive Refusal
  /-- A row of the opcode table without a meaning yet: raised by exec's arm of that row alone. Safe: the model stops. -/
  | notModelled (mnemonic : String)
  deriving DecidableEq, Repr

/-! ### Codes of Table 15 -/

/-- Status codes (Table 15). -/
inductive Status
  | ok | busy | denied | protected_ | range | format | order | state | full | staleBasis | futureBasis | starting | unknown
  deriving DecidableEq, Repr

/-- Refusal reasons (Table 15, R39). -/
inductive Reason
  | noBorrower | unreadable | badCheck | noRecord | cardInUse | lostCard | sessionFull | tablesInvalid | clockUnset | journalFull
  | localFull | itemAlert | expired | fines | limit | renewLimit | notForLoan | onLoan | held | blocked | notLoanable
  deriving DecidableEq, Repr

/-- Condition bits (Table 15, R187). -/
inductive Condition
  | clockUnset | timebaseLost | tablesInvalid | journalHigh | journalReserve | journalStall | localListFull | paperOut
  | printerStalled | slipDropped | lostCardPresented | itemAlert | commitFailed | linkErrors | wandFault (station : Station)
  deriving DecidableEq, Repr

/-- Reset causes (R192). -/
inductive Cause
  | powerOn | resetLine | restartRequest
  deriving DecidableEq, Repr

/-- A day and minute as a record carries them; day 65535 marks an undated one (R128). -/
structure Stamp where
  day : Nat
  minute : Nat
  deriving DecidableEq, Repr

/-! ### Wand channel (Table 2) -/

/-- A completed wand character with its status marks and loss note (R2, R3, R4). -/
structure WandChar where
  value : Byte
  parityError : Bool
  framingError : Bool
  isBreak : Bool
  lossNote : Bool
  deriving DecidableEq, Repr

/-- Receiver states (R2). -/
inductive Receiver
  | idle | receiving | waitMark
  deriving DecidableEq, Repr

/-- Assembler states (R6). -/
inductive Assembler
  | empty | collecting | discarding
  deriving DecidableEq, Repr

/-- Scan Record kinds (R18). -/
inductive ScanKind
  | borrower | item | staff | command | unreadable | badCheck
  deriving DecidableEq, Repr

/-- A Scan Record (R18); identity 0 is absent. -/
structure ScanRecord where
  station : Station
  kind : ScanKind
  ident : Nat
  day : Nat
  minute : Nat
  deriving DecidableEq, Repr

/-- Outcomes shown at a station (R22). -/
inductive OutcomeKind
  | grant | returnOk | refusal | lostCard | holdTrapped | ack | staffOk | commandOk | closed
  deriving DecidableEq, Repr

/-- A running outcome pattern and the interval it is in, counted from 0 (R22, log 33). `lit` is clear once its lamp part has ended and
only its beeper sounds on. -/
structure Pattern where
  outcome : OutcomeKind
  interval : Nat
  lit : Bool
  deriving DecidableEq, Repr

/-- One wand channel with its station outputs (Table 2). -/
structure Channel where
  receiver : Receiver
  holding : Option WandChar
  fifo : List WandChar
  assembler : Assembler
  damage : Bool
  afterTerminator : Bool
  buffer : List Byte
  queue : List ScanRecord
  errors : Nat
  overrun : Bool
  hold : Bool
  pattern : Option Pattern
  deriving DecidableEq, Repr

/-! ### Sessions (Table 3) -/

/-- Session states (R43). -/
inductive SessionState
  | idle | open_ | closing
  deriving DecidableEq, Repr

/-- Station modes (R24). -/
inductive Mode
  | loan | returns | mixed | outOfService
  deriving DecidableEq, Repr

/-- A granted list entry (Table 3). -/
structure Granted where
  item : Nat
  dueDay : Nat
  dueMinute : Nat
  renewed : Bool
  deriving DecidableEq, Repr

/-- The last refusal (R34). -/
structure LastRefusal where
  item : Nat
  reason : Reason
  overridden : List Reason
  deriving DecidableEq, Repr

/-- An open staff window (R38). -/
structure Window where
  index : Nat
  level : Nat
  deriving DecidableEq, Repr

/-- What a slip lists: a loan slip's entries, or a hold slip's item and shelf day (R155). -/
inductive SlipBody
  | loan (entries : List Granted)
  | hold (item expiry : Nat)
  deriving DecidableEq, Repr

/-- A slip record (R155). -/
structure Slip where
  station : Station
  time : Stamp
  card : Nat
  body : SlipBody
  copy : Bool
  deriving DecidableEq, Repr

/-- Slip outcome of a session close (R45). -/
inductive SlipOutcome
  | none | queued | dropped
  deriving DecidableEq, Repr

/-- One Session Record (Table 3), with the close time and slip outcome that wait for its SESSION_CLOSE record (R43, R45). -/
structure Session where
  state : SessionState
  card : Nat
  guest : Bool
  granted : List Granted
  lastRefusal : Option LastRefusal
  window : Option Window
  idleTimer : Bool
  slipWait : Option Slip
  closePending : Bool
  closeTime : Stamp
  slipOutcome : SlipOutcome
  deriving DecidableEq, Repr

/-! ### Journal records (R127, Table 16) -/

/-- Record kinds (Table 9, Table 15). -/
inductive RecordKind
  | restart | clockSet | loan | renew | returned | refusal | lostCard | sessionClose | tablePatch | tableCommit
  deriving DecidableEq, Repr

/-- The fifteen record flags (Table 10). -/
structure RecordFlags where
  override : Bool := false
  transferred : Bool := false
  holdFilled : Bool := false
  holdTrapped : Bool := false
  holdAlready : Bool := false
  found : Bool := false
  exceptionCleared : Bool := false
  late : Bool := false
  undated : Bool := false
  guest : Bool := false
  dateSaturated : Bool := false
  rollLimit : Bool := false
  clamped : Bool := false
  shortClamped : Bool := false
  beyondHorizon : Bool := false
  deriving DecidableEq, Repr

/-- A journal record (R127). `reason` is byte 12 of Table 16 and `aux0` to `aux2` bytes 27 to 29; the CRC is computed from the rest
when the record's bytes are formed. `station` is 15 for a record of the link or of start-up. -/
structure JournalRecord where
  sequence : Nat
  day : Nat
  minute : Nat
  kind : RecordKind
  station : Nat
  reason : Nat
  flags : RecordFlags
  card : Nat
  item : Nat
  dueDay : Nat
  dueMinute : Nat
  aux0 : Nat
  aux1 : Nat
  aux2 : Nat
  deriving DecidableEq, Repr

/-! ### Decision Engine (Table 4) -/

/-- What a scan handed to the Decision Engine asks for, fixed at its take (R29, R30, R33). -/
inductive Task
  | cardLookup | noBorrower | badScan | returnItem | loanItem | staffCard
  deriving DecidableEq, Repr

/-- Request classes (R29, R134). -/
inductive RequestClass
  | loanClass | returnClass
  deriving DecidableEq, Repr

/-- The decision in flight: the scan with its session context and class (R29, R48). -/
structure Decision where
  station : Station
  scan : ScanRecord
  task : Task
  sessionState : SessionState
  card : Nat
  guest : Bool
  lastRefusal : Option LastRefusal
  requestClass : RequestClass
  deriving DecidableEq, Repr

/-- Engine phases (R48). -/
inductive EnginePhase
  | free | awaitingTurn | writing
  deriving DecidableEq, Repr

/-- Result kinds (R50). -/
inductive ResultKind
  | loan | renew | returned | refused | lostCard | duplicate | opened | staffFound
  deriving DecidableEq, Repr

/-- The last decision result of a station (R50). -/
structure LastResult where
  kind : ResultKind
  reason : Option Reason
  ident : Nat
  sequence : Nat
  deriving DecidableEq, Repr

/-- What a decision does to the last refusal (R34). -/
inductive RefusalEffect
  | keep
  | clear
  | set (r : LastRefusal)
  deriving DecidableEq, Repr

/-- What an evaluation yields: the record to write, if any, and the effects of R50 that apply at its write completion, or at the
turn when there is none. `unrecorded` counts a refusal at an unrecorded turn (R51). -/
structure Verdict where
  kind : ResultKind
  reason : Option Reason := none
  record : Option JournalRecord := none
  outcome : Option OutcomeKind := none
  opens : Option Bool := none
  granted : Option Granted := none
  lastRefusal : RefusalEffect := .keep
  window : Option Window := none
  holdSlip : Option Slip := none
  latch : Option Condition := none
  unrecorded : Bool := false
  deriving DecidableEq, Repr

/-- The Decision Engine (Table 4, without the Local Loan List). -/
structure Engine where
  phase : EnginePhase
  decision : Option Decision
  verdict : Option Verdict
  last : PerStation (Option LastResult)
  unrecorded : Nat
  deriving DecidableEq, Repr

/-- A Local Loan List entry (R64). -/
structure LoanEntry where
  item : Nat
  card : Nat
  sequence : Nat
  dueDay : Nat
  dueMinute : Nat
  renewals : Nat
  override : Bool
  transferred : Bool
  deriving DecidableEq, Repr

/-! ### Table Store (Tables 6 and 7) -/

/-- The tables of a set, in the order of their numbers (Table 6). -/
inductive TableId
  | borrower | itemException | classRange | category | policy | calendar | staff | symbolFormat
  deriving DecidableEq, Repr

/-- Borrower flags, as an entry holds them and a patch names them (R98, R116). -/
structure BorrowerFlags where
  adminBlock : Bool
  overdueBlock : Bool
  lost : Bool
  deriving DecidableEq, Repr

/-- A Borrower entry (R98). -/
structure Borrower where
  card : Nat
  category : Nat
  flags : BorrowerFlags
  snapshot : Nat
  limitAdjust : Int
  fines : Nat
  thresholdAdjust : Int
  expiry : Nat
  deriving DecidableEq, Repr

/-- Item exception states (R99). -/
inductive ExceptionState
  | notForLoan | missing | onLoanElsewhere | holdWaiting | holdOnShelf
  deriving DecidableEq, Repr

/-- An Item Exception entry (R99); hold card 0 is absent. -/
structure ItemException where
  item : Nat
  state : ExceptionState
  classOverride : Option Nat
  holdCard : Nat
  holdExpiry : Option Nat
  deriving DecidableEq, Repr

/-- A Class Range entry (R100). -/
structure ClassRange where
  low : Nat
  high : Nat
  cls : Nat
  deriving DecidableEq, Repr

/-- A Category entry (R100). -/
structure Category where
  loanLimit : Nat
  threshold : Nat
  capDay : Nat
  deriving DecidableEq, Repr

/-- Policy cell kinds (R100). -/
inductive CellKind
  | days | hours | notLoanable
  deriving DecidableEq, Repr

/-- A Policy cell (R100). -/
structure PolicyCell where
  kind : CellKind
  period : Nat
  renewals : Nat
  deriving DecidableEq, Repr

/-- The Calendar's header (R101): the weekly closed mask, bit 0 Monday, and open and close minutes by weekday. -/
structure CalendarHeader where
  mask : Byte
  hours : List (Nat × Nat)
  horizon : Nat
  shelfDays : Nat
  deriving DecidableEq, Repr

/-- A Staff entry (R102). -/
structure StaffEntry where
  number : Nat
  level : Nat
  deriving DecidableEq, Repr

/-- Symbol kinds (R12). -/
inductive SymbolKind
  | borrower | item | staff | command | ignore
  deriving DecidableEq, Repr

/-- Check schemes (R12). -/
inductive CheckScheme
  | none | w31 | w21
  deriving DecidableEq, Repr

/-- A Symbol Format entry (R12); `lead` is its prefix. -/
structure SymbolFormat where
  lead : List Byte
  minLength : Nat
  maxLength : Nat
  kind : SymbolKind
  check : CheckScheme
  strip : Nat
  deriving DecidableEq, Repr

/-- One instance of each of the eight tables (R97). A Calendar without its header is an empty or part-loaded one. -/
structure TableSet where
  borrowers : List Borrower
  exceptions : List ItemException
  ranges : List ClassRange
  categories : List Category
  policy : List PolicyCell
  calendarHeader : Option CalendarHeader
  closedDays : List Nat
  staff : List StaffEntry
  symbols : List SymbolFormat
  deriving DecidableEq, Repr

/-- A bank: a Table Set and the stored CRC of each of its tables, by table number (R97, R107). -/
structure Bank where
  tables : TableSet
  crcs : Vector Nat 8
  deriving DecidableEq, Repr

/-- The two banks' names (R103). -/
inductive BankName
  | a | b
  deriving DecidableEq, Repr

/-- Standby states (R104). -/
inductive StandbyState
  | empty | loading | copying | complete | failed
  deriving DecidableEq, Repr

/-- The standby state of one table, with its copy point and failure code (R104). -/
structure Standby where
  state : StandbyState
  copyPoint : Option Nat
  failure : Option Status
  deriving DecidableEq, Repr

/-- The load context of the LOADING table (R105). -/
structure LoadContext where
  table : TableId
  count : Nat
  pointer : Nat
  crc : Nat
  previousKey : Option Nat
  deriving DecidableEq, Repr

/-- A copy in progress: the table, and the content and stored CRC taken at acceptance (R109). -/
structure CopyContext where
  table : TableId
  source : TableSet
  crc : Nat
  deriving DecidableEq, Repr

/-- Commit states (R111 to R115). -/
inductive CommitState
  | idle | validating | replaying | done | failed
  deriving DecidableEq, Repr

/-- The commit: its state, S, whether its validation has passed and its record is asked for, and its failure detail (R113). -/
structure Commit where
  state : CommitState
  basis : Nat
  validated : Bool
  failure : Option (TableId × Status)
  deriving DecidableEq, Repr

/-- Operations of a borrower patch (R116). -/
inductive BorrowerOp
  | setFlags (mask : BorrowerFlags)
  | clearFlags (mask : BorrowerFlags)
  | setFines (fines : Nat)
  | setExpiry (day : Nat)
  | insert (entry : Borrower)
  | delete
  deriving DecidableEq, Repr

/-- Operations of an item patch (R117). -/
inductive ItemOp
  | insert (entry : ItemException)
  | delete
  | setState (state : ExceptionState) (holdCard : Nat) (holdExpiry : Option Nat)
  deriving DecidableEq, Repr

/-- A patch (R116, R117). -/
inductive Patch
  | borrower (card : Nat) (op : BorrowerOp)
  | item (item : Nat) (op : ItemOp)
  deriving DecidableEq, Repr

/-- Lock modes (R122). -/
inductive LockMode
  | opened | lineGuarded | powerLocked | fixed
  deriving DecidableEq, Repr

/-- The protection settings (R121). -/
structure Protection where
  patchMask : Byte
  loadMask : Byte
  low : Nat
  high : Nat
  complement : Bool
  lock : LockMode
  deriving DecidableEq, Repr

/-- The Table Store (Table 7). -/
structure TableStore where
  bankA : Bank
  bankB : Bank
  live : BankName
  basis : Nat
  valid : Bool
  standby : Vector Standby 8
  load : Option LoadContext
  copy : Option CopyContext
  commit : Commit
  patch : Option Patch
  protection : Protection
  deriving DecidableEq, Repr

/-! ### Journal (Table 8) -/

/-- What a slot that is not blank holds: a record, or the torn rest of a cut write (R143, log 22). -/
inductive Slot
  | record (r : JournalRecord)
  | torn
  deriving DecidableEq, Repr

/-- Page states (R130). -/
inductive PageState
  | erased | filling | full | released | erasing
  deriving DecidableEq, Repr

/-- Who asks for a turn (R133). -/
inductive Requester
  | engine | patch | commit | clock | close (station : Station) | restart
  deriving DecidableEq, Repr

/-- Writer phases (Table 8); in WRITING, the record and who asked for it. -/
inductive Writer
  | idle
  | writing (r : JournalRecord) (owner : Requester)
  | replaying
  deriving DecidableEq, Repr

/-- The Journal (Table 8). `slots` lists the slots that are not blank, by rising number. `reErased` says that the erase which the
recovery of this phase 1 redoes has completed (R143); the erase mark is set from it when phase 1 ends (R154). -/
structure Journal where
  slots : List (Nat × Slot)
  released : Nat
  eraseMarker : Option Nat
  lastComplete : Nat
  pages : Vector PageState 128
  eraseQueue : List Nat
  requests : List Requester
  writer : Writer
  tornMark : Bool
  erasedAgainMark : Bool
  reErased : Bool
  deriving DecidableEq, Repr

/-! ### Desk Clock (Table 5) -/

/-- The operands of a clock request (R79). -/
inductive ClockOp
  | set (day minute : Nat)
  | adjust (minutes : Int)
  deriving DecidableEq, Repr

/-- The phase of a pending clock request; in WRITING, the new time and the edges counted since the turn (R80). -/
inductive ClockPhase
  | awaitingTurn
  | writing (day minute second edges : Nat)
  deriving DecidableEq, Repr

/-- A pending clock request (R79). -/
structure ClockRequest where
  op : ClockOp
  phase : ClockPhase
  deriving DecidableEq, Repr

/-- The Desk Clock (Table 5). -/
structure Clock where
  day : Nat
  minute : Nat
  second : Nat
  isSet : Bool
  halted : Bool
  lost : Bool
  request : Option ClockRequest
  deriving DecidableEq, Repr

/-! ### Slip Unit (Table 11) -/

/-- Port states (R162). -/
inductive Port
  | idle | printing | paused | stopping | held
  deriving DecidableEq, Repr

/-- The printer line: at mark, or sending a byte at the printer rate it was begun at (R161), of the current slip or of one aborted
meanwhile (R169). -/
inductive PrinterLine
  | mark
  | sending (b : Byte) (rate : Nat) (ofCurrent : Bool)
  deriving DecidableEq, Repr

/-- The Slip Unit (Table 11). -/
structure SlipUnit where
  queue : List Slip
  buffer : List Byte
  position : Nat
  lastPrinted : Option Slip
  port : Port
  line : PrinterLine
  stalled : Bool
  deriving DecidableEq, Repr

/-! ### Service link (Table 12, Table 17) -/

/-- Link receiver states (R173). -/
inductive LinkReceiver
  | hunt | length | type | payload | crcHigh | crcLow | waitMark
  deriving DecidableEq, Repr

/-- What the end of a response's last byte brings: nothing, the restart (R182), or the Configure's link rate (R172). -/
inductive FrameTag
  | plain
  | restart
  | configure (rate : Nat)
  deriving DecidableEq, Repr

/-- A response frame as formed, its CRC added when it is sent (R176, Table 13). -/
structure Frame where
  type : Nat
  payload : List Byte
  tag : FrameTag
  deriving DecidableEq, Repr

/-- What waits to be sent, in the order formed: response frames, and at most one attention notice (R176, R177). -/
inductive TxItem
  | response (f : Frame)
  | notice
  deriving DecidableEq, Repr

/-- The frame being sent: what it is, and its bytes (Table 13). -/
structure Sending where
  item : TxItem
  bytes : List Byte
  deriving DecidableEq, Repr

/-- The Service Link Interface (Table 12). -/
structure Link where
  receiver : LinkReceiver
  length : Nat
  type : Nat
  payload : List Byte
  crc : Nat
  crcHigh : Nat
  tx : List TxItem
  sending : Option Sending
  access : Nat
  errors : Nat
  code1 : BitVec 32
  code2 : BitVec 32
  rate : Nat
  rateReady : Bool
  shut : Bool
  deriving DecidableEq, Repr

/-- A station's group of the configuration record (Table 17). -/
structure StationConfig where
  rate : Nat
  dataBits : Nat
  parity : Nat
  mode : Mode
  selectorEnabled : Bool
  slipsEnabled : Bool
  deriving DecidableEq, Repr

/-- The configuration record (Table 17). `levels` holds the override level of each reason, by its code less 1; 0 is NONE. -/
structure ConfigRecord where
  stations : PerStation StationConfig
  printerRate : Nat
  linkRate : Nat
  idleTimeout : Nat
  slipWait : Nat
  guestMode : Bool
  guestCategory : Nat
  levels : List Nat
  highWater : Nat
  deskMask : BitVec 32
  noticeMask : BitVec 32
  title : List Byte
  footer1 : List Byte
  footer2 : List Byte
  deriving DecidableEq, Repr

/-! ### Condition Monitor, inputs, start-up -/

/-- The latched conditions (R187). -/
structure Latched where
  slipDropped : Bool
  lostCardPresented : Bool
  itemAlert : Bool
  commitFailed : Bool
  linkErrors : Bool
  wandFault : PerStation Bool
  deriving DecidableEq, Repr

/-- Levels of the debounced inputs (R20). -/
structure Levels where
  selector : PerStation SelectorLevel
  paperOut : Bool
  maintenance : Bool
  deriving DecidableEq, Repr

/-- Whether the part runs: without supply; running; letting nonvolatile operations complete before the reset line's reset or
before a Restart; held in reset (R192, log 8). -/
inductive Life
  | off | on | waitReset | waitRestart | inReset
  deriving DecidableEq, Repr

/-- The start-up phases in which the part can stand between two steps: phase 1, phase 3, and started (R193). -/
inductive Phase
  | recovery | replay | started
  deriving DecidableEq, Repr

/-- The state of the LD4. `pending` is the queue of commands that wait, first in, first out; `draws` is the model's own count of the
free values drawn (log 24). -/
structure State where
  pending : List Instr
  draws : Nat
  life : Life
  phase : Phase
  startCause : Cause
  heldCause : Option Cause
  pins : Levels
  ready : Bool
  resetLine : Bool
  levels : Levels
  channels : PerStation Channel
  sessions : PerStation Session
  lastGranted : Station
  engine : Engine
  loans : List LoanEntry
  tables : TableStore
  journal : Journal
  clock : Clock
  slips : SlipUnit
  link : Link
  config : ConfigRecord
  configStore : Option ConfigRecord
  latched : Latched
  deriving DecidableEq, Repr

/-! ### Values at a start (Tables 2 to 12) -/

/-- A channel after any reset (R23). -/
def Channel.afterReset : Channel :=
  { receiver := .waitMark, holding := none, fifo := [], assembler := .empty, damage := false, afterTerminator := false,
    buffer := [], queue := [], errors := 0, overrun := false, hold := false, pattern := none }

/-- A Session Record after any reset (Table 3, R47). -/
def Session.afterReset : Session :=
  { state := .idle, card := 0, guest := false, granted := [], lastRefusal := none, window := none, idleTimer := false,
    slipWait := none, closePending := false, closeTime := { day := 0, minute := 0 }, slipOutcome := .none }

/-- The Slip Unit after any reset (R171). -/
def SlipUnit.afterReset : SlipUnit :=
  { queue := [], buffer := [], position := 0, lastPrinted := none, port := .idle, line := .mark, stalled := false }

/-- The Desk Clock after power-on (R81). -/
def Clock.afterPowerOn : Clock :=
  { day := 0, minute := 0, second := 0, isSet := false, halted := false, lost := false, request := none }

/-- The latched conditions after power-on (R191). -/
def Latched.none : Latched :=
  { slipDropped := false, lostCardPresented := false, itemAlert := false, commitFailed := false, linkErrors := false,
    wandFault := Vector.replicate 4 false }

/-- The commit after any start (R125). -/
def Commit.idle : Commit := { state := .idle, basis := 0, validated := false, failure := none }

/-- An EMPTY standby table (R124). -/
def Standby.empty : Standby := { state := .empty, copyPoint := none, failure := none }

/-! ### Factory values (R195) -/

/-- Empty tables (R124). -/
def TableSet.empty : TableSet :=
  { borrowers := [], exceptions := [], ranges := [], categories := [], policy := [], calendarHeader := none, closedDays := [],
    staff := [], symbols := [] }

/-- A bank of empty tables; a table with no entries has the CRC FFFFh (R185). -/
def Bank.empty : Bank := { tables := TableSet.empty, crcs := Vector.replicate 8 0xFFFF }

/-- Factory protection settings (R124). -/
def Protection.factory : Protection :=
  { patchMask := 0, loadMask := 0, low := 0, high := 0, complement := false, lock := .opened }

/-- The factory Table Store (R124). -/
def TableStore.factory : TableStore :=
  { bankA := Bank.empty, bankB := Bank.empty, live := .a, basis := 0, valid := false, standby := Vector.replicate 8 Standby.empty,
    load := none, copy := none, commit := Commit.idle, patch := none, protection := Protection.factory }

/-- The factory Journal (Table 8, R195). -/
def Journal.factory : Journal :=
  { slots := [], released := 0, eraseMarker := none, lastComplete := 0, pages := Vector.replicate 128 .erased, eraseQueue := [],
    requests := [], writer := .idle, tornMark := false, erasedAgainMark := false, reErased := false }

/-- A station's factory group (Table 17). -/
def StationConfig.factory : StationConfig :=
  { rate := 3, dataBits := 8, parity := 0, mode := .mixed, selectorEnabled := false, slipsEnabled := true }

/-- The factory override levels of the reasons 1 to 21 (R39). -/
def factoryLevels : List Nat := [0, 0, 0, 0, 0, 0, 0, 0, 0, 0, 0, 1, 1, 1, 1, 1, 2, 2, 2, 2, 2]

/-- The factory configuration record (Table 17): every condition routed to the desk, none to notices. -/
def ConfigRecord.factory : ConfigRecord :=
  { stations := Vector.replicate 4 StationConfig.factory, printerRate := 0, linkRate := 1, idleTimeout := 90, slipWait := 10,
    guestMode := false, guestCategory := 0, levels := factoryLevels, highWater := 3584, deskMask := 0x3FFFF, noticeMask := 0,
    title := [], footer1 := [], footer2 := [] }

/-- The input levels the model starts from (log 6). -/
def Levels.initial : Levels := { selector := Vector.replicate 4 .loan, paperOut := false, maintenance := false }

/-- The link after the first start of a factory part: both codes all ones, so access level 2 (R178, Table 12). -/
def Link.factory : Link :=
  { receiver := .waitMark, length := 0, type := 0, payload := [], crc := 0, crcHigh := 0, tx := [], sending := none, access := 2,
    errors := 0, code1 := 0xFFFFFFFF, code2 := 0xFFFFFFFF, rate := 1, rateReady := false, shut := false }

/-- The factory part at the start of its first power-on: nonvolatile state at R195's values, volatile state as power-on leaves it,
start-up in phase 1 (log 5). -/
def State.reset : State :=
  { pending := [], draws := 0, life := .on, phase := .recovery, startCause := .powerOn, heldCause := some .powerOn, pins := Levels.initial,
    ready := false, resetLine := false, levels := Levels.initial, channels := Vector.replicate 4 Channel.afterReset,
    sessions := Vector.replicate 4 Session.afterReset, lastGranted := 3,
    engine := { phase := .free, decision := none, verdict := none, last := Vector.replicate 4 none, unrecorded := 0 },
    loans := [], tables := TableStore.factory, journal := Journal.factory, clock := Clock.afterPowerOn,
    slips := SlipUnit.afterReset, link := Link.factory, config := ConfigRecord.factory, configStore := none,
    latched := Latched.none }

end Sys2Proof.Machine
end

