-- ==== Sys2Proof/Machine/Operands.lean ====
section
/-! DEFINITION. Every layout and code value of the service link: Table 15 codes, journal records (Table 16), entries (Table 18) and the configuration record (Table 17), each with its ranges. -/

namespace Sys2Proof.Machine

open Config

/-! ### Codes (Table 15) -/

def Status.code : Status → Nat
  | .ok => 0 | .busy => 1 | .denied => 2 | .protected_ => 3 | .range => 4 | .format => 5 | .order => 6 | .state => 7 | .full => 8
  | .staleBasis => 9 | .futureBasis => 10 | .starting => 11 | .unknown => 12

def RecordKind.code : RecordKind → Nat
  | .restart => 0 | .clockSet => 1 | .loan => 2 | .renew => 3 | .returned => 4 | .refusal => 5 | .lostCard => 6
  | .sessionClose => 7 | .tablePatch => 8 | .tableCommit => 9

def Reason.code : Reason → Nat
  | .noBorrower => 1 | .unreadable => 2 | .badCheck => 3 | .noRecord => 4 | .cardInUse => 5 | .lostCard => 6 | .sessionFull => 7
  | .tablesInvalid => 8 | .clockUnset => 9 | .journalFull => 10 | .localFull => 11 | .itemAlert => 12 | .expired => 13 | .fines => 14
  | .limit => 15 | .renewLimit => 16 | .notForLoan => 17 | .onLoan => 18 | .held => 19 | .blocked => 20 | .notLoanable => 21

def Condition.bit : Condition → Nat
  | .clockUnset => 0 | .timebaseLost => 1 | .tablesInvalid => 2 | .journalHigh => 3 | .journalReserve => 4 | .journalStall => 5
  | .localListFull => 6 | .paperOut => 7 | .printerStalled => 8 | .slipDropped => 9 | .lostCardPresented => 10 | .itemAlert => 11
  | .commitFailed => 12 | .linkErrors => 13 | .wandFault i => 14 + i.val

/-- The 18 conditions, in bit order (R187). -/
def Condition.all : List Condition :=
  [.clockUnset, .timebaseLost, .tablesInvalid, .journalHigh, .journalReserve, .journalStall, .localListFull, .paperOut, .printerStalled,
    .slipDropped, .lostCardPresented, .itemAlert, .commitFailed, .linkErrors, .wandFault 0, .wandFault 1, .wandFault 2, .wandFault 3]

def Cause.code : Cause → Nat
  | .powerOn => 0 | .resetLine => 1 | .restartRequest => 2

def Mode.code : Mode → Nat
  | .loan => 0 | .returns => 1 | .mixed => 2 | .outOfService => 3

def Mode.ofCode : Nat → Option Mode
  | 0 => some .loan | 1 => some .returns | 2 => some .mixed | 3 => some .outOfService | _ => none

def SessionState.code : SessionState → Nat
  | .idle => 0 | .open_ => 1 | .closing => 2

def ResultKind.code : ResultKind → Nat
  | .loan => 1 | .renew => 2 | .returned => 3 | .refused => 4 | .lostCard => 5 | .duplicate => 6 | .opened => 7 | .staffFound => 8

def PageState.code : PageState → Nat
  | .erased => 0 | .filling => 1 | .full => 2 | .released => 3 | .erasing => 4

def CommitState.code : CommitState → Nat
  | .idle => 0 | .validating => 1 | .replaying => 2 | .done => 3 | .failed => 4

def StandbyState.code : StandbyState → Nat
  | .empty => 0 | .loading => 1 | .copying => 2 | .complete => 3 | .failed => 4

def Port.code : Port → Nat
  | .idle => 0 | .printing => 1 | .paused => 2 | .stopping => 3 | .held => 4

def SelectorLevel.code : SelectorLevel → Nat
  | .loan => 0 | .returns => 1

def SlipOutcome.code : SlipOutcome → Nat
  | .none => 0 | .queued => 1 | .dropped => 2

def BankName.code : BankName → Nat
  | .a => 0 | .b => 1

def BankName.ofCode (n : Nat) : BankName := if n = 0 then .a else .b

def BankName.other : BankName → BankName
  | .a => .b | .b => .a

def LockMode.code : LockMode → Nat
  | .opened => 0 | .lineGuarded => 1 | .powerLocked => 2 | .fixed => 3

def LockMode.ofCode : Nat → Option LockMode
  | 0 => some .opened | 1 => some .lineGuarded | 2 => some .powerLocked | 3 => some .fixed | _ => none

def ExceptionState.code : ExceptionState → Nat
  | .notForLoan => 0 | .missing => 1 | .onLoanElsewhere => 2 | .holdWaiting => 3 | .holdOnShelf => 4

def ExceptionState.ofCode : Nat → Option ExceptionState
  | 0 => some .notForLoan | 1 => some .missing | 2 => some .onLoanElsewhere | 3 => some .holdWaiting | 4 => some .holdOnShelf | _ => none

def CellKind.code : CellKind → Nat
  | .days => 0 | .hours => 1 | .notLoanable => 2

def CellKind.ofCode : Nat → Option CellKind
  | 0 => some .days | 1 => some .hours | 2 => some .notLoanable | _ => none

def SymbolKind.code : SymbolKind → Nat
  | .borrower => 0 | .item => 1 | .staff => 2 | .command => 3 | .ignore => 4

def SymbolKind.ofCode : Nat → Option SymbolKind
  | 0 => some .borrower | 1 => some .item | 2 => some .staff | 3 => some .command | 4 => some .ignore | _ => none

def CheckScheme.code : CheckScheme → Nat
  | .none => 0 | .w31 => 1 | .w21 => 2

def CheckScheme.ofCode : Nat → Option CheckScheme
  | 0 => some .none | 1 => some .w31 | 2 => some .w21 | _ => none

/-- Table numbers (Table 6). -/
def TableId.index : TableId → Fin 8
  | .borrower => 0 | .itemException => 1 | .classRange => 2 | .category => 3 | .policy => 4 | .calendar => 5 | .staff => 6
  | .symbolFormat => 7

def TableId.ofNumber : Nat → Option TableId
  | 0 => some .borrower | 1 => some .itemException | 2 => some .classRange | 3 => some .category | 4 => some .policy
  | 5 => some .calendar | 6 => some .staff | 7 => some .symbolFormat | _ => none

/-- The eight tables in order of number. -/
def TableId.all : List TableId :=
  [.borrower, .itemException, .classRange, .category, .policy, .calendar, .staff, .symbolFormat]

/-- A flag's weight in a flag field. -/
def flagBit (b : Bool) (n : Nat) : Nat := if b then 2 ^ n else 0

/-- The flag field of a record (Table 15, record flag bit). -/
def RecordFlags.code (f : RecordFlags) : Nat :=
  flagBit f.override 0 + flagBit f.transferred 1 + flagBit f.holdFilled 2 + flagBit f.holdTrapped 3 + flagBit f.holdAlready 4
    + flagBit f.found 5 + flagBit f.exceptionCleared 6 + flagBit f.late 7 + flagBit f.undated 8 + flagBit f.guest 9
    + flagBit f.dateSaturated 10 + flagBit f.rollLimit 11 + flagBit f.clamped 12 + flagBit f.shortClamped 13
    + flagBit f.beyondHorizon 14

/-- The borrower flag byte (Table 15). -/
def BorrowerFlags.code (f : BorrowerFlags) : Nat := flagBit f.adminBlock 0 + flagBit f.overdueBlock 1 + flagBit f.lost 2

/-- The flags a byte below 8 names. -/
def BorrowerFlags.ofCode (n : Nat) : BorrowerFlags :=
  { adminBlock := n % 2 = 1, overdueBlock := n / 2 % 2 = 1, lost := n / 4 % 2 = 1 }

/-! ### Journal records (Table 16) -/

/-- Bytes 0 to 29 of a record. -/
def JournalRecord.body (r : JournalRecord) : List Byte :=
  beBytes 4 r.sequence ++ beBytes 2 r.day ++ beBytes 2 r.dueDay ++ beBytes 3 (r.minute * 4096 + r.dueMinute)
    ++ [byte (r.kind.code * 16 + r.station), byte r.reason] ++ beBytes 2 r.flags.code ++ beBytes 6 r.card ++ beBytes 6 r.item
    ++ [byte r.aux0, byte r.aux1, byte r.aux2]

/-- The 32 bytes of a record, its CRC-16 over the other 30 last (R127, Table 16). -/
def JournalRecord.bytes (r : JournalRecord) : List Byte := r.body ++ beBytes 2 (crc16 r.body)

/-! ### Table entries (Table 18) -/

/-- An entry of any table; the Calendar's are its header and its closed days (R101). -/
inductive Entry
  | borrower (e : Borrower)
  | exception (e : ItemException)
  | range (e : ClassRange)
  | category (e : Category)
  | policy (e : PolicyCell)
  | header (e : CalendarHeader)
  | closedDay (d : Nat)
  | staff (e : StaffEntry)
  | symbol (e : SymbolFormat)
  deriving DecidableEq, Repr

/-- An identity number that is present (Conventions, Identity numbers). -/
def isIdentity (n : Nat) : Bool := decide (1 ≤ n ∧ n ≤ maxIdentity)

/-- A letter or digit of a symbol prefix (R12). -/
def isPrefixChar (b : Byte) : Bool :=
  let n := b.toNat
  decide (0x30 ≤ n ∧ n ≤ 0x39 ∨ 0x41 ≤ n ∧ n ≤ 0x5A ∨ 0x61 ≤ n ∧ n ≤ 0x7A)

/-- Every field of an entry lies in its range (R12, R98 to R102). -/
def Entry.inRange : Entry → Bool
  | .borrower e =>
    isIdentity e.card && decide (e.category ≤ 15) && decide (e.snapshot ≤ 99) && decide (-16 ≤ e.limitAdjust ∧ e.limitAdjust ≤ 15)
      && decide (e.fines ≤ 65535) && decide (-32768 ≤ e.thresholdAdjust ∧ e.thresholdAdjust ≤ 32767) && decide (e.expiry ≤ lastDay)
  | .exception e =>
    isIdentity e.item && (e.classOverride.all fun c => decide (c ≤ 15)) && decide (e.holdCard ≤ maxIdentity)
      && (e.holdExpiry.all fun d => decide (d ≤ lastDay))
  | .range e => isIdentity e.low && isIdentity e.high && decide (e.cls ≤ 15)
  | .category e => decide (e.loanLimit ≤ 99) && decide (e.threshold ≤ 65535) && decide (e.capDay ≤ lastDay)
  | .policy e => decide (1 ≤ e.period ∧ e.period ≤ 365) && decide (e.renewals ≤ 15)
  | .header e =>
    decide (e.mask.toNat < 128) && e.hours.length == 7
      && (e.hours.all fun h => decide (h.1 ≤ 1438) && decide (1 ≤ h.2 ∧ h.2 ≤ 1439))
      && decide (e.horizon ≤ lastDay) && decide (1 ≤ e.shelfDays ∧ e.shelfDays ≤ 30)
  | .closedDay d => decide (d ≤ lastDay)
  | .staff e => isIdentity e.number && decide (e.level = 1 ∨ e.level = 2)
  | .symbol e =>
    decide (e.lead.length ≤ 4) && e.lead.all isPrefixChar && decide (4 ≤ e.minLength ∧ e.minLength ≤ 32)
      && decide (4 ≤ e.maxLength ∧ e.maxLength ≤ 32) && decide (e.strip ≤ 31)

/-- The load layout of an entry (Table 18). -/
def Entry.bytes : Entry → List Byte
  | .borrower e =>
    beBytes 6 e.card ++ [byte e.category, byte e.flags.code, byte e.snapshot, byte (twosOf 8 e.limitAdjust)] ++ beBytes 2 e.fines
      ++ beBytes 2 (twosOf 16 e.thresholdAdjust) ++ beBytes 2 e.expiry
  | .exception e =>
    beBytes 6 e.item ++ [byte e.state.code, byte (e.classOverride.getD 0xFF)] ++ beBytes 6 e.holdCard
      ++ beBytes 2 (e.holdExpiry.getD 0xFFFF)
  | .range e => beBytes 6 e.low ++ beBytes 6 e.high ++ [byte e.cls]
  | .category e => [byte e.loanLimit] ++ beBytes 2 e.threshold ++ beBytes 2 e.capDay
  | .policy e => [byte e.kind.code] ++ beBytes 2 e.period ++ [byte e.renewals]
  | .header e =>
    [e.mask] ++ (e.hours.flatMap fun h => beBytes 2 h.1 ++ beBytes 2 h.2) ++ beBytes 2 e.horizon ++ [byte e.shelfDays]
  | .closedDay d => beBytes 2 d
  | .staff e => beBytes 6 e.number ++ [byte e.level]
  | .symbol e =>
    [byte e.lead.length] ++ e.lead ++ List.replicate (4 - e.lead.length) 0
      ++ [byte e.minLength, byte e.maxLength, byte e.kind.code, byte e.check.code, byte e.strip]

/-- The size of an entry in its load layout (Table 18); `first` is the Calendar's entry at pointer 0. -/
def entrySize (t : TableId) (first : Bool) : Nat :=
  match t with
  | .borrower | .itemException => 16
  | .classRange => 13
  | .category => 5
  | .policy => 4
  | .calendar => if first then 32 else 2
  | .staff => 7
  | .symbolFormat => 10

/-- The entry some bytes spell, whatever its ranges; none when a code names nothing or a padding byte is not 0 (R186). -/
def Entry.ofBytes (t : TableId) (first : Bool) (b : List Byte) : Option Entry :=
  match t with
  | .borrower =>
    if byteAt b 7 < 8 then
      some (.borrower
        { card := beField b 0 6, category := byteAt b 6, flags := BorrowerFlags.ofCode (byteAt b 7), snapshot := byteAt b 8,
          limitAdjust := signedOf 8 (byteAt b 9), fines := beField b 10 2, thresholdAdjust := signedOf 16 (beField b 12 2),
          expiry := beField b 14 2 })
    else none
  | .itemException =>
    (ExceptionState.ofCode (byteAt b 6)).map fun st =>
      .exception
        { item := beField b 0 6, state := st, classOverride := if byteAt b 7 = 0xFF then none else some (byteAt b 7),
          holdCard := beField b 8 6, holdExpiry := if beField b 14 2 = 0xFFFF then none else some (beField b 14 2) }
  | .classRange => some (.range { low := beField b 0 6, high := beField b 6 6, cls := byteAt b 12 })
  | .category => some (.category { loanLimit := byteAt b 0, threshold := beField b 1 2, capDay := beField b 3 2 })
  | .policy =>
    (CellKind.ofCode (byteAt b 0)).map fun k => .policy { kind := k, period := beField b 1 2, renewals := byteAt b 3 }
  | .calendar =>
    if first then
      some (.header
        { mask := b.getD 0 0, hours := (List.range 7).map fun i => (beField b (1 + 4 * i) 2, beField b (3 + 4 * i) 2),
          horizon := beField b 29 2, shelfDays := byteAt b 31 })
    else some (.closedDay (beField b 0 2))
  | .staff => some (.staff { number := beField b 0 6, level := byteAt b 6 })
  | .symbolFormat =>
    match SymbolKind.ofCode (byteAt b 7), CheckScheme.ofCode (byteAt b 8) with
    | some k, some c =>
      if byteAt b 0 ≤ 4 ∧ ((b.drop (1 + byteAt b 0)).take (4 - byteAt b 0)).all (· == 0) then
        some (.symbol
          { lead := (b.drop 1).take (byteAt b 0), minLength := byteAt b 5, maxLength := byteAt b 6, kind := k, check := c,
            strip := byteAt b 9 })
      else none
    | _, _ => none

/-- The entry some bytes spell, none when any field lies outside its range (R106 step 2). -/
def decodeEntry (t : TableId) (first : Bool) (b : List Byte) : Option Entry :=
  (Entry.ofBytes t first b).filter Entry.inRange

/-- The key of an entry, for a keyed table (Table 6, R106 step 3); a Calendar's closed days are keyed by day, its header is not. -/
def Entry.key : Entry → Option Nat
  | .borrower e => some e.card
  | .exception e => some e.item
  | .range e => some e.low
  | .closedDay d => some d
  | .staff e => some e.number
  | .category _ | .policy _ | .header _ | .symbol _ => none

/-- The entries of one table, in order (R97). -/
def TableSet.entries (s : TableSet) : TableId → List Entry
  | .borrower => s.borrowers.map .borrower
  | .itemException => s.exceptions.map .exception
  | .classRange => s.ranges.map .range
  | .category => s.categories.map .category
  | .policy => s.policy.map .policy
  | .calendar => (s.calendarHeader.map Entry.header).toList ++ s.closedDays.map .closedDay
  | .staff => s.staff.map .staff
  | .symbolFormat => s.symbols.map .symbol

/-- The number of entries of one table. -/
def TableSet.count (s : TableSet) (t : TableId) : Nat := (s.entries t).length

/-- A table's CRC: over its entries in their load layout, in order (R185). -/
def TableSet.crc (s : TableSet) (t : TableId) : Nat := crc16 ((s.entries t).flatMap Entry.bytes)

/-- Write an entry after the last of its table (R106). -/
def TableSet.append (s : TableSet) : Entry → TableSet
  | .borrower e => { s with borrowers := s.borrowers ++ [e] }
  | .exception e => { s with exceptions := s.exceptions ++ [e] }
  | .range e => { s with ranges := s.ranges ++ [e] }
  | .category e => { s with categories := s.categories ++ [e] }
  | .policy e => { s with policy := s.policy ++ [e] }
  | .header e => { s with calendarHeader := some e }
  | .closedDay d => { s with closedDays := s.closedDays ++ [d] }
  | .staff e => { s with staff := s.staff ++ [e] }
  | .symbol e => { s with symbols := s.symbols ++ [e] }

/-- One table taken from another set, the rest kept (R109). -/
def TableSet.take (s source : TableSet) : TableId → TableSet
  | .borrower => { s with borrowers := source.borrowers }
  | .itemException => { s with exceptions := source.exceptions }
  | .classRange => { s with ranges := source.ranges }
  | .category => { s with categories := source.categories }
  | .policy => { s with policy := source.policy }
  | .calendar => { s with calendarHeader := source.calendarHeader, closedDays := source.closedDays }
  | .staff => { s with staff := source.staff }
  | .symbolFormat => { s with symbols := source.symbols }

/-- One table emptied (R104, R105). -/
def TableSet.discard (s : TableSet) (t : TableId) : TableSet := s.take TableSet.empty t

/-- The largest count of a table, and whether its count is fixed (Table 6). -/
def maxCount : TableId → Nat
  | .borrower => 8192 | .itemException => 2048 | .classRange => 32 | .category => 16 | .policy => 256 | .calendar => 97 | .staff => 32
  | .symbolFormat => 8

/-- A count that the table's row of Table 6 allows (R105). -/
def countAllowed (t : TableId) (n : Nat) : Bool :=
  match t with
  | .category | .policy | .symbolFormat => n == maxCount t
  | .calendar => decide (1 ≤ n ∧ n ≤ maxCount t)
  | _ => decide (n ≤ maxCount t)

/-- A hold card exactly in the two hold states, a hold expiry exactly in HOLD_ON_SHELF (R99). -/
def presenceRule (state : ExceptionState) (holdCard : Nat) (holdExpiry : Option Nat) : Bool :=
  match state with
  | .holdWaiting => holdCard != 0 && holdExpiry.isNone
  | .holdOnShelf => holdCard != 0 && holdExpiry.isSome
  | _ => holdCard == 0 && holdExpiry.isNone

/-- Keys in strictly ascending order. -/
def strictlyAscending : List Nat → Bool
  | [] => true
  | [_] => true
  | a :: b :: rest => decide (a < b) && strictlyAscending (b :: rest)

/-- Each range's low bound at most its high bound and above the previous range's high bound (R100). -/
def rangesDisjoint : List ClassRange → Bool
  | [] => true
  | [a] => decide (a.low ≤ a.high)
  | a :: b :: rest => decide (a.low ≤ a.high) && decide (a.high < b.low) && rangesDisjoint (b :: rest)

/-- The rules relating fields to one another (R112 step 5). -/
def TableSet.related (s : TableSet) : TableId → Bool
  | .itemException => s.exceptions.all fun e => presenceRule e.state e.holdCard e.holdExpiry
  | .classRange => rangesDisjoint s.ranges
  | .policy => s.policy.all fun c => !(c.kind == .hours) || decide (c.period ≤ 12)
  | .calendar => s.calendarHeader.all fun h => h.hours.all fun o => decide (o.1 < o.2)
  | _ => true

/-- Validation of one table, in the five steps of R112; none when it passes. -/
def validateTable (s : TableSet) (storedCrc : Nat) (t : TableId) : Option Status :=
  if s.crc t ≠ storedCrc then some .format
  else if !countAllowed t (s.count t) then some .format
  else if !(s.entries t).all Entry.inRange then some .range
  else if !strictlyAscending ((s.entries t).filterMap Entry.key) then some .order
  else if !s.related t then some .range
  else none

/-- A Local Loan List entry as Read Entry gives it (Table 18). -/
def LoanEntry.bytes (e : LoanEntry) : List Byte :=
  beBytes 6 e.item ++ beBytes 6 e.card ++ beBytes 4 e.sequence ++ beBytes 2 e.dueDay ++ beBytes 2 e.dueMinute
    ++ [byte e.renewals, byte (flagBit e.override 0 + flagBit e.transferred 1)]

/-! ### Configuration record (Table 17) -/

/-- A text field: its length, then its characters padded with 0. -/
def textBytes (width : Nat) (t : List Byte) : List Byte := byte t.length :: (t ++ List.replicate (width - t.length) 0)

/-- A text field's text, none when it is too long, holds a character outside 20h to 7Eh, or is not padded with 0 (R184, log 16). -/
def textOf (width : Nat) (b : List Byte) : Option (List Byte) :=
  let n := byteAt b 0
  let chars := (b.drop 1).take n
  if n ≤ width ∧ (chars.all fun c => decide (0x20 ≤ c.toNat ∧ c.toNat ≤ 0x7E)) ∧ ((b.drop (1 + n)).take (width - n)).all (· == 0) then
    some chars
  else none

/-- A station's group (Table 17). -/
def StationConfig.bytes (c : StationConfig) : List Byte :=
  [byte c.rate, byte c.dataBits, byte c.parity, byte c.mode.code, markByte c.selectorEnabled, markByte c.slipsEnabled]

/-- A station's group, none when a field is outside its range. -/
def StationConfig.ofBytes (b : List Byte) : Option StationConfig :=
  match Mode.ofCode (byteAt b 3) with
  | some mode =>
    if byteAt b 0 ≤ 5 ∧ (byteAt b 1 = 7 ∨ byteAt b 1 = 8) ∧ byteAt b 2 ≤ 2 ∧ byteAt b 4 ≤ 1 ∧ byteAt b 5 ≤ 1 then
      some { rate := byteAt b 0, dataBits := byteAt b 1, parity := byteAt b 2, mode := mode,
             selectorEnabled := byteAt b 4 == 1, slipsEnabled := byteAt b 5 == 1 }
    else none
  | none => none

/-- The 162 bytes of a configuration record (Table 17). -/
def ConfigRecord.bytes (c : ConfigRecord) : List Byte :=
  (c.stations.toList.flatMap StationConfig.bytes)
    ++ [byte c.printerRate, byte c.linkRate] ++ beBytes 2 c.idleTimeout ++ [byte c.slipWait, markByte c.guestMode, byte c.guestCategory]
    ++ c.levels.map byte ++ beBytes 2 c.highWater ++ beBytes 4 c.deskMask.toNat ++ beBytes 4 c.noticeMask.toNat
    ++ textBytes 24 c.title ++ textBytes 32 c.footer1 ++ textBytes 32 c.footer2 ++ List.replicate 9 0

/-- The override levels a record may carry: NONE for the reasons R39 fixes, NONE, 1 or 2 for the others. -/
def levelsAllowed (levels : List Nat) : Bool :=
  (levels.take 11).all (· == 0) && levels.all fun l => decide (l ≤ 2)

/-- The record that 162 bytes spell, none when any field is outside its range (R184). -/
def ConfigRecord.ofBytes (b : List Byte) : Option ConfigRecord :=
  match StationConfig.ofBytes b, StationConfig.ofBytes (b.drop 6), StationConfig.ofBytes (b.drop 12), StationConfig.ofBytes (b.drop 18),
    textOf 24 (b.drop 62), textOf 32 (b.drop 87), textOf 32 (b.drop 120) with
  | some s0, some s1, some s2, some s3, some title, some footer1, some footer2 =>
    let levels := ((b.drop 31).take 21).map (·.toNat)
    if byteAt b 24 ≤ 4 ∧ byteAt b 25 ≤ 4 ∧ 15 ≤ beField b 26 2 ∧ beField b 26 2 ≤ 600 ∧ byteAt b 28 ≤ 60 ∧ byteAt b 29 ≤ 1
        ∧ byteAt b 30 ≤ 15 ∧ levelsAllowed levels ∧ 1024 ≤ beField b 52 2 ∧ beField b 52 2 ≤ 4032
        ∧ beField b 54 4 < 2 ^ 18 ∧ beField b 58 4 < 2 ^ 18 ∧ (b.drop 153).all (· == 0) then
      some
        { stations := #v[s0, s1, s2, s3], printerRate := byteAt b 24, linkRate := byteAt b 25, idleTimeout := beField b 26 2,
          slipWait := byteAt b 28, guestMode := byteAt b 29 == 1, guestCategory := byteAt b 30, levels := levels,
          highWater := beField b 52 2, deskMask := BitVec.ofNat 32 (beField b 54 4), noticeMask := BitVec.ofNat 32 (beField b 58 4),
          title := title, footer1 := footer1, footer2 := footer2 }
    else none
  | _, _, _, _, _, _, _ => none

/-- The override level of a reason (R39); 0 is NONE. -/
def ConfigRecord.level (c : ConfigRecord) (r : Reason) : Nat := c.levels.getD (r.code - 1) 0

/-- A staff card's level is sufficient for a reason (R39). -/
def ConfigRecord.sufficient (c : ConfigRecord) (staffLevel : Nat) (r : Reason) : Bool :=
  c.level r != 0 && decide (c.level r ≤ staffLevel)

/-- The 16 bytes of the protection settings (Table 14, Set Protection). -/
def Protection.bytes (p : Protection) : List Byte :=
  [p.patchMask, p.loadMask] ++ beBytes 6 p.low ++ beBytes 6 p.high ++ [markByte p.complement, byte p.lock.code]

end Sys2Proof.Machine
end

