-- ==== Sys2Proof/Machine/Calendar.lean ====
section
/-! DEFINITION. Days, rolls, due times and hold expiry (R82 to R94), and the dates and times a slip prints (R95, R96). -/

namespace Sys2Proof.Machine

open Config

/-- The live Calendar as the computations read it: its header and closed-day list (R83). -/
structure Calendar where
  header : CalendarHeader
  closedDays : List Nat
  deriving DecidableEq, Repr

/-- A header for a set that has none; no valid set lacks it (R101, log 40). -/
def CalendarHeader.blank : CalendarHeader := { mask := 0, hours := [], horizon := 0, shelfDays := 0 }

/-- The Calendar of a Table Set. -/
def TableSet.calendar (s : TableSet) : Calendar :=
  { header := s.calendarHeader.getD CalendarHeader.blank, closedDays := s.closedDays }

/-- Weekday of a day, 0 Monday (R82). -/
def weekday (d : Nat) : Nat := (d + 5) % 7

/-- The open-day test's negative (R83): the weekday is marked, or the day is not after the horizon and is listed. -/
def Calendar.closed (c : Calendar) (d : Nat) : Bool :=
  c.header.mask.getLsbD (weekday d) || (decide (d ≤ c.header.horizon) && c.closedDays.contains d)

/-- Open and close minutes of a day: those of its weekday, whether the day is open or closed (R83). -/
def Calendar.openMinute (c : Calendar) (d : Nat) : Nat := (c.header.hours.getD (weekday d) (0, 0)).1
def Calendar.closeMinute (c : Calendar) (d : Nat) : Nat := (c.header.hours.getD (weekday d) (0, 0)).2

/-- A forward roll with so many steps left (R85). -/
def Calendar.forward (c : Calendar) : Nat → Nat → Nat
  | 0, n => n
  | steps + 1, n => if c.closed n && decide (n < lastDay) then c.forward steps (n + 1) else n

/-- A forward roll (R85). It sets ROLL_LIMIT exactly when its result is closed. -/
def Calendar.rollForward (c : Calendar) (n : Nat) : Nat := c.forward rollLimit n

/-- A backward roll bounded below by `today`, with so many steps left (R86). -/
def Calendar.backward (c : Calendar) (today : Nat) : Nat → Nat → Nat
  | 0, n => n
  | steps + 1, n => if c.closed n && decide (today < n) then c.backward today steps (n - 1) else n

/-- A backward roll bounded below by `today` (R86). It sets ROLL_LIMIT exactly when its result is closed. -/
def Calendar.rollBackward (c : Calendar) (today n : Nat) : Nat := c.backward today rollLimit n

/-- A computed due time, or hold expiry day, with the flags the computation sets. -/
structure Due where
  day : Nat
  minute : Nat
  flags : RecordFlags
  deriving DecidableEq, Repr

/-- The limit day L of a loan made on `today` (R89): the earlier of the expiry, when there is one, and the cap day, when there is
one that is not before today. -/
def limitDay (today expiry cap : Nat) : Option Nat :=
  if expiry ≠ 0 then
    if cap ≠ 0 ∧ today ≤ cap then some (min expiry cap) else some expiry
  else if cap ≠ 0 ∧ today ≤ cap then some cap
  else none

/-- The due time of a day loan, in the stages of R87 to R90. -/
def Calendar.dayLoan (c : Calendar) (today period expiry cap : Nat) : Due :=
  let saturated := decide (lastDay < today + period)
  let rolled := c.rollForward (min (today + period) lastDay)
  match limitDay today expiry cap with
  | some l =>
    if l < rolled then
      let n := c.rollBackward today l
      { day := n, minute := c.closeMinute n,
        flags := { dateSaturated := saturated, rollLimit := c.closed rolled || c.closed n, clamped := true,
                   beyondHorizon := decide (c.header.horizon < n) } }
    else
      { day := rolled, minute := c.closeMinute rolled,
        flags := { dateSaturated := saturated, rollLimit := c.closed rolled, beyondHorizon := decide (c.header.horizon < rolled) } }
  | none =>
    { day := rolled, minute := c.closeMinute rolled,
      flags := { dateSaturated := saturated, rollLimit := c.closed rolled, beyondHorizon := decide (c.header.horizon < rolled) } }

/-- An hour loan falls due on the day it is made (R91). -/
def Calendar.sameDay (c : Calendar) (today minute hours : Nat) : Bool :=
  !c.closed today && decide (minute < c.closeMinute today) && decide (minute + 60 * hours ≤ c.closeMinute today)

/-- The due time of an hour loan before its limit day (R91, R92). -/
def Calendar.hourBase (c : Calendar) (today minute hours : Nat) : Due :=
  if c.sameDay today minute hours then
    { day := today, minute := minute + 60 * hours, flags := {} }
  else if today = lastDay then
    { day := lastDay, minute := c.closeMinute lastDay, flags := { dateSaturated := true } }
  else
    let rest :=
      if !c.closed today && decide (minute < c.closeMinute today) then minute + 60 * hours - c.closeMinute today else 60 * hours
    let n := c.rollForward (today + 1)
    if c.closeMinute n < c.openMinute n + rest then
      { day := n, minute := c.closeMinute n, flags := { rollLimit := c.closed n, shortClamped := true } }
    else
      { day := n, minute := c.openMinute n + rest, flags := { rollLimit := c.closed n } }

/-- BEYOND_HORIZON for the final day of a computation (R84). -/
def Calendar.judged (c : Calendar) (d : Due) : Due :=
  { d with flags := { d.flags with beyondHorizon := decide (c.header.horizon < d.day) } }

/-- The due time of an hour loan (R91 to R93). -/
def Calendar.hourLoan (c : Calendar) (today minute hours expiry cap : Nat) : Due :=
  let base := c.hourBase today minute hours
  match limitDay today expiry cap with
  | some l =>
    if l < base.day then
      let n := c.rollBackward today l
      c.judged
        { day := n, minute := c.closeMinute n,
          flags := { base.flags with clamped := true, rollLimit := base.flags.rollLimit || c.closed n } }
    else c.judged base
  | none => c.judged base

/-- The due time a policy cell gives; a NOT_LOANABLE cell that was overridden lends by days (R61, R100). -/
def Calendar.dueTime (c : Calendar) (cell : PolicyCell) (today minute expiry cap : Nat) : Due :=
  match cell.kind with
  | .hours => c.hourLoan today minute cell.period expiry cap
  | .days | .notLoanable => c.dayLoan today cell.period expiry cap

/-- The hold expiry of a hold trapped on `today` (R94); its minute is not used. -/
def Calendar.holdExpiry (c : Calendar) (today : Nat) : Due :=
  let n := c.rollForward (min (today + c.header.shelfDays) lastDay)
  { day := n, minute := 0,
    flags := { dateSaturated := decide (lastDay < today + c.header.shelfDays), rollLimit := c.closed n,
               beyondHorizon := decide (c.header.horizon < n) } }

/-! ### Dates and times on slips -/

/-- Length of a year (R95). -/
def yearLength (y : Nat) : Nat := if y % 4 = 0 then 366 else 365

/-- Take whole years from a day count (R95). -/
def takeYears : Nat → Nat → Nat → Nat × Nat
  | 0, y, d => (y, d)
  | fuel + 1, y, d => if d < yearLength y then (y, d) else takeYears fuel (y + 1) (d - yearLength y)

/-- Month lengths of a year (R95). -/
def monthLengths (y : Nat) : List Nat := [31, if y % 4 = 0 then 29 else 28, 31, 30, 31, 30, 31, 31, 30, 31, 30, 31]

/-- Take whole months from a day count (R95). -/
def takeMonths : List Nat → Nat → Nat → Nat × Nat
  | [], m, d => (m, d)
  | l :: rest, m, d => if d < l then (m, d) else takeMonths rest (m + 1) (d - l)

/-- Year, month and day of the month of a day number (R95). -/
def civilDate (d : Nat) : Nat × Nat × Nat :=
  let yr := takeYears 100 2000 d
  let md := takeMonths (monthLengths yr.1) 1 yr.2
  (yr.1, md.1, md.2 + 1)

/-- A date in ten characters; the day of an undated record prints as ten hyphens (R95, R160). -/
def dateText (d : Nat) : List Byte :=
  if d = undated then ascii (List.replicate 10 '-')
  else
    let c := civilDate d
    digits 4 c.1 ++ ascii ['-'] ++ digits 2 c.2.1 ++ ascii ['-'] ++ digits 2 c.2.2

/-- A minute of day in five characters (R96). -/
def minuteText (m : Nat) : List Byte := digits 2 (m / 60) ++ ascii [':'] ++ digits 2 (m % 60)

/-- The time of a slip; undated, it prints as hyphens (R96, R160). -/
def timeText (t : Stamp) : List Byte :=
  if t.day = undated then ascii ['-', '-', ':', '-', '-'] else minuteText t.minute

end Sys2Proof.Machine
end

