-- ==== Sys2Proof/Machine/JournalStore.lean ====
section
/-! DEFINITION. The journal's store: slots, pages, figures, release, erase, recovery, and the records replay and Journal Read take (R129 to R148). -/

namespace Sys2Proof.Machine

open Config

/-! ### Slots -/

/-- The slots' canonical form: numbers strictly rising and below 4096. A slot that is not listed is blank. -/
def slotsWf (slots : List (Nat × Slot)) : Bool :=
  strictlyAscending (slots.map (·.1)) && slots.all fun e => decide (e.1 < slotCount)

/-- What a slot holds, none when it is blank. -/
def findSlot (slots : List (Nat × Slot)) (n : Nat) : Option Slot := (slots.find? fun e => e.1 == n).map (·.2)

/-- A slot written. -/
def putSlot (n : Nat) (v : Slot) : List (Nat × Slot) → List (Nat × Slot)
  | [] => [(n, v)]
  | e :: rest =>
    if n < e.1 then (n, v) :: e :: rest
    else if n = e.1 then (n, v) :: rest
    else e :: putSlot n v rest

/-- A page's 32 slots made blank (R140). -/
def blankPage (p : Nat) (slots : List (Nat × Slot)) : List (Nat × Slot) := slots.filter fun e => e.1 / pageSlots != p

/-- The slot of a sequence number (R129). -/
def slotOf (sequence : Nat) : Nat := (sequence - 1) % slotCount

/-- The record a slot entry holds, when its sequence belongs to the slot (R143). -/
def soundRecord (e : Nat × Slot) : Option JournalRecord :=
  match e.2 with
  | .record r => if 1 ≤ r.sequence ∧ slotOf r.sequence = e.1 then some r else none
  | .torn => none

/-- The records a page holds. -/
def pageRecords (slots : List (Nat × Slot)) (p : Nat) : List JournalRecord :=
  (slots.filter fun e => e.1 / pageSlots == p).filterMap soundRecord

/-! ### Figures (R129, R131) -/

def Journal.nextSequence (j : Journal) : Nat := j.lastComplete + 1
def Journal.headSlot (j : Journal) : Nat := j.lastComplete % slotCount
def Journal.headPage (j : Journal) : Nat := j.headSlot / pageSlots

/-- The state of a page. -/
def Journal.page (j : Journal) (p : Nat) : PageState := (j.pages[p]?).getD .erased

/-- A page given a state. -/
def Journal.setPage (j : Journal) (p : Nat) (st : PageState) : Journal := { j with pages := j.pages.setIfInBounds p st }

/-- A page whose slots count as free: RELEASED or ERASING (R131). -/
def PageState.givesFree : PageState → Bool
  | .released | .erasing => true
  | _ => false

/-- Used slots: those not blank that lie in no RELEASED or ERASING page (R131). -/
def Journal.used (j : Journal) : Nat := (j.slots.filter fun e => !(j.page (e.1 / pageSlots)).givesFree).length

/-- Free slots (R131). -/
def Journal.free (j : Journal) : Nat := slotCount - j.used

/-- The last complete sequence is the greatest there is (R129). -/
def Journal.exhausted (j : Journal) : Bool := decide (maxSequence ≤ j.lastComplete)

/-- The pages in ring order from page `p`. -/
def ringFrom (p : Nat) : List Nat := (List.range pageCount).map fun k => (p + k) % pageCount

/-- The tail page: the oldest page that is not ERASED (R131). A head page that still waits for its erase holds the oldest records and
is the tail page itself (log 20). -/
def Journal.tailPage (j : Journal) : Nat :=
  match j.page j.headPage with
  | .erased | .filling => ((ringFrom (j.headPage + 1)).find? fun p => j.page p != .erased).getD j.headPage
  | _ => j.headPage

/-- The page that holds the last complete record. -/
def Journal.holdsLast (j : Journal) (p : Nat) : Bool := j.lastComplete != 0 && slotOf j.lastComplete / pageSlots == p

/-! ### Release and erase (R139, R140) -/

/-- A FULL page whose records are all released and which does not hold the last complete record (R139). -/
def Journal.releasable (j : Journal) (p : Nat) : Bool :=
  j.page p == .full && ((pageRecords j.slots p).all fun r => decide (r.sequence ≤ j.released)) && !j.holdsLast p

/-- One page tested: if it passes it becomes RELEASED and joins the tail of the erase queue (R139). -/
def Journal.releasePage (j : Journal) (p : Nat) : Journal :=
  if j.releasable p then { j.setPage p .released with eraseQueue := j.eraseQueue ++ [p] } else j

/-- Every FULL page tested, in ring order from the tail page (R139, R150). -/
def Journal.releasePages (j : Journal) : Journal := (ringFrom j.tailPage).foldl Journal.releasePage j

/-- The released-through sequence raised to `r`, with its page tests; unchanged when `r` is not above it (R149, R150). -/
def Journal.releaseThrough (j : Journal) (r : Nat) : Journal :=
  if j.released < r then { j with released := r }.releasePages else j

/-- The front of the erase queue begins to be erased (R140). -/
def Journal.startErase (j : Journal) : Journal :=
  match j.eraseMarker, j.eraseQueue with
  | none, p :: rest => { j.setPage p .erasing with eraseMarker := some p, eraseQueue := rest }
  | _, _ => j

/-- The running erase completes (R140, R145). -/
def Journal.endErase (j : Journal) : Journal :=
  match j.eraseMarker with
  | some p => { j.setPage p .erased with slots := blankPage p j.slots, eraseMarker := none }
  | none => j

/-! ### Writing (R129, R130, R136) -/

/-- The head slot is writable: its page is ERASED or FILLING (R135). -/
def Journal.headWritable (j : Journal) : Bool :=
  match j.page j.headPage with
  | .erased | .filling => true
  | _ => false

/-- A record's write completes: the slot, the last complete sequence and the page states (R130, R136, R139). -/
def Journal.complete (j : Journal) (r : JournalRecord) : Journal :=
  let p := j.headPage
  let place := j.headSlot % pageSlots
  let written := { j with slots := putSlot j.headSlot (.record r) j.slots, lastComplete := r.sequence }
  if place = 0 then (written.setPage p .filling).releasePage ((p + (pageCount - 1)) % pageCount)
  else if place = pageSlots - 1 then written.setPage p .full
  else written

/-! ### Reading -/

/-- The complete record of a sequence. -/
def Journal.record? (j : Journal) (sequence : Nat) : Option JournalRecord :=
  match findSlot j.slots (slotOf sequence) with
  | some (.record r) => if r.sequence = sequence then some r else none
  | _ => none

/-- The complete records of the sequences from `first`, `n` of them. -/
def Journal.recordsFrom (j : Journal) (first n : Nat) : List JournalRecord :=
  (List.range n).filterMap fun k => j.record? (first + k)

/-- The complete records above a basis, in ascending order of sequence (R141); the store holds at most 4096. -/
def Journal.recordsAbove (j : Journal) (basis : Nat) : List JournalRecord :=
  let n := min (j.lastComplete - basis) slotCount
  j.recordsFrom (j.lastComplete - n + 1) n

/-- Where a Journal Read from `s` starts (R147). -/
def Journal.readStart (j : Journal) (s : Nat) : Nat := max s (j.released + 1)

/-- The records a Journal Read from `s` returns: up to 6, in order, from the greater of `s` and R + 1 (R147). -/
def Journal.readRecords (j : Journal) (s : Nat) : List JournalRecord :=
  j.recordsFrom (j.readStart s) (min 6 (j.lastComplete + 1 - j.readStart s))

/-- The newest complete TABLE_COMMIT record (R126). -/
def Journal.newestCommit (j : Journal) : Option JournalRecord :=
  (j.slots.filterMap soundRecord).foldl
    (fun best r =>
      if r.kind = .tableCommit then
        match best with
        | some b => if b.sequence < r.sequence then some r else best
        | none => some r
      else best)
    none

/-! ### Recovery (R143, R144) -/

/-- The state a page takes by its contents (R144). -/
def derivedPage (slots : List (Nat × Slot)) (released last : Nat) (p : Nat) : PageState :=
  let records := pageRecords slots p
  let holdsLast := records.any fun r => r.sequence == last
  if records.isEmpty then .erased
  else if records.length < pageSlots ∧ holdsLast then .filling
  else if holdsLast || !(records.all fun r => decide (r.sequence ≤ released)) then .full
  else .released

/-- Journal recovery: redo an interrupted erase, return torn slots to blank, and derive the rest from the store and R (R143, R144). -/
def Journal.recover (j : Journal) : Journal :=
  let reErased := match j.eraseMarker with
    | some p => blankPage p j.slots
    | none => j.slots
  let sound := reErased.filter fun e => (soundRecord e).isSome
  let last := (sound.filterMap soundRecord).foldl (fun m r => max m r.sequence) 0
  let derived : Journal :=
    { j with
      slots := sound, eraseMarker := none, lastComplete := last, pages := Vector.ofFn fun p : Fin 128 => derivedPage sound j.released last p.val,
      eraseQueue := [], requests := [], writer := .idle, tornMark := decide (sound.length < reErased.length),
      erasedAgainMark := j.eraseMarker.isSome || j.reErased, reErased := false }
  { derived with eraseQueue := (ringFrom derived.tailPage).filter fun p => derived.page p == .released }

/-- The erase that recovery redoes completes within phase 1 (R143): the page is blank and the marker none, and recovery keeps that it
erased a page again (R154). -/
def Journal.endReErase (j : Journal) : Journal := { j.endErase with reErased := j.reErased || j.eraseMarker.isSome }

/-- Torn slots returned to blank (R143). -/
def Journal.dropTorn (j : Journal) : Journal := { j with slots := j.slots.filter fun e => (soundRecord e).isSome }

/-- The Journal as a start finds it before recovery: what is not nonvolatile is empty until recovery derives it (Table 8, log 26). -/
def Journal.afterReset (j : Journal) : Journal :=
  { j with
    lastComplete := 0, pages := Vector.replicate 128 .erased, eraseQueue := [], requests := [], writer := .idle, reErased := false }

end Sys2Proof.Machine
end

