-- ==== Sys2Proof/Machine/Flags.lean ====
section
/-! DEFINITION. The condition set, the desk attention line and the start of attention notices (R132, R177, R187, R190). -/

namespace Sys2Proof.Machine

open Config

/-- The part has supply and is not held in reset. -/
def State.running (s : State) : Bool :=
  match s.life with
  | .on | .waitReset | .waitRestart => true
  | .off | .inReset => false

/-- The Journal's figures stand: recovery has derived them (R191, R193). -/
def State.journalDerived (s : State) : Bool := s.running && s.phase != .recovery

/-- The latched mark of a condition, false for a level condition (R187). -/
def Latched.has (l : Latched) : Condition → Bool
  | .slipDropped => l.slipDropped
  | .lostCardPresented => l.lostCardPresented
  | .itemAlert => l.itemAlert
  | .commitFailed => l.commitFailed
  | .linkErrors => l.linkErrors
  | .wandFault i => l.wandFault[i]
  | _ => false

/-- A latched condition made active or inactive; a level condition is not kept (R187, R188, R189). -/
def Latched.put (l : Latched) (v : Bool) : Condition → Latched
  | .slipDropped => { l with slipDropped := v }
  | .lostCardPresented => { l with lostCardPresented := v }
  | .itemAlert => { l with itemAlert := v }
  | .commitFailed => { l with commitFailed := v }
  | .linkErrors => { l with linkErrors := v }
  | .wandFault i => { l with wandFault := l.wandFault.set i v }
  | _ => l

/-- A condition is active: a level condition while its cause holds, a latched one while its mark is set (R187). Without supply
none is. -/
def State.active (s : State) (c : Condition) : Bool :=
  s.life != .off &&
    match c with
    | .clockUnset => !s.clock.isSet
    | .timebaseLost => s.clock.lost
    | .tablesInvalid => !s.tables.valid
    | .journalHigh => s.journalDerived && decide (s.config.highWater ≤ s.journal.used)
    | .journalReserve => s.journalDerived && decide (s.journal.free ≤ loanReserve)
    | .journalStall => s.journalDerived && (s.journal.free == 0 || s.journal.exhausted)
    | .localListFull => decide (loanListLength ≤ s.loans.length)
    | .paperOut => s.levels.paperOut
    | .printerStalled => s.slips.stalled
    | c => s.latched.has c

/-- The active condition set as a mask: bits 0 to 17 (R187). -/
def State.activeMask (s : State) : Nat :=
  Condition.all.foldl (fun acc c => acc + flagBit (s.active c) c.bit) 0

/-- DESK_ATTN (R190): some condition is active and named in the desk mask, and the part is not held in reset. -/
def State.deskAttn (s : State) : Bool :=
  s.running && Condition.all.any fun c => s.active c && s.config.deskMask.getLsbD c.bit

/-- An attention notice is waiting or being sent (R177). -/
def Link.noticePresent (l : Link) : Bool :=
  l.tx.contains .notice || (match l.sending with | some f => f.item == .notice | none => false)

/-- Some condition named in the notice mask is active in `t` and was not in `s` (R177). -/
def activated (s t : State) : Bool :=
  Condition.all.any fun c => t.active c && !s.active c && t.config.noticeMask.getLsbD c.bit

/-- The link with a notice begun to wait; at most one waits at a time (R177). -/
def Link.addNotice (l : Link) : Link := if l.noticePresent then l else { l with tx := l.tx ++ [.notice] }

/-- The state after a command: where a routed condition became active, a notice begins to wait (R177, log 12). -/
def settle (s t : State) : State :=
  if t.running && activated s t then { t with link := t.link.addNotice } else t

/-- The outcome of a command that takes the block from `s` to `t`. -/
def finish (s t : State) : Host.Outcome State Fault Refusal := .next (settle s t)

end Sys2Proof.Machine
end

