-- ==== Sys2Proof/Machine/Scan.lean ====
section
/-! DEFINITION. The scan path of one wand channel (R1 to R19): reception, FIFO and overrun, hold line, symbol assembly, classification and check digits. -/

namespace Sys2Proof.Machine

open Config

/-! ### Reception (R2) -/

/-- The data bits of a frame: the low 7 or 8 (R2). -/
def wandValue (dataBits : Nat) (data : Byte) : Byte := if dataBits = 7 then data &&& 0x7F else data

/-- Whether a byte has an odd number of ones. -/
def oddOnes (b : Byte) : Bool := (List.range 8).foldl (fun acc i => xor acc (b.getLsbD i)) false

/-- The character a completed frame gives: value, parity error, framing error, break (R2). Parity codes are those of Table 17. -/
def receiveWand (dataBits parityCode : Nat) (data : Byte) (parity stop : Bool) : WandChar :=
  let v := wandValue dataBits data
  if v == 0 && !stop && (parityCode == 0 || !parity) then
    { value := 0, parityError := false, framingError := false, isBreak := true, lossNote := false }
  else
    let odd := xor (oddOnes v) parity
    { value := v, parityError := (parityCode == 1 && odd) || (parityCode == 2 && !odd), framingError := !stop, isBreak := false,
      lossNote := false }

/-- Where a completed character goes (R3, R4): the FIFO's tail, the holding stage, or the holding stage in place of the character
that is lost there. The mark says that an overrun occurred. -/
def Channel.accept (ch : Channel) (c : WandChar) : Channel × Bool :=
  match ch.holding with
  | some _ => ({ ch with holding := some { c with lossNote := true }, overrun := true }, true)
  | none =>
    if ch.fifo.length < fifoDepth then ({ ch with fifo := ch.fifo ++ [c] }, false)
    else ({ ch with holding := some c }, false)

/-! ### Hold line and gap timer -/

/-- The hold line after a test of the condition for its current state (R5). -/
def holdNext (outOfService : Bool) (ch : Channel) : Bool :=
  if outOfService then false
  else if ch.hold then !(decide (ch.fifo.length ≤ 8) && decide (ch.queue.length < scanQueueDepth))
  else decide (12 ≤ ch.fifo.length) || decide (scanQueueDepth ≤ ch.queue.length)

/-- A channel with its hold line tested (R5). -/
def Channel.retest (outOfService : Bool) (ch : Channel) : Channel := { ch with hold := holdNext outOfService ch }

/-- The gap timer runs (R10). -/
def Channel.gapTimerRuns (ch : Channel) : Bool :=
  ch.assembler != .empty && ch.fifo.isEmpty && ch.holding.isNone && !ch.hold

/-- The partial symbol discarded and both marks cleared (R9, R10). -/
def Channel.dropSymbol (ch : Channel) : Channel :=
  { ch with assembler := .empty, damage := false, afterTerminator := false, buffer := [] }

/-- What a change of the channel's line settings does to it (R1). -/
def Channel.settingsChanged (ch : Channel) : Channel :=
  { ch.dropSymbol with receiver := .waitMark, holding := none, fifo := [] }

/-! ### Check schemes (R15 to R17) -/

/-- The sum over the data digits, given from the rightmost one (position 1, odd): odd positions weighed, even ones taken as they are. -/
def checkSum (weigh : Nat → Nat) : Bool → List Nat → Nat
  | _, [] => 0
  | true, d :: rest => weigh d + checkSum weigh false rest
  | false, d :: rest => d + checkSum weigh true rest

/-- An odd position's digit under W21: doubled, less 9 when above 9 (R17). -/
def doubled (d : Nat) : Nat := if 9 < 2 * d then 2 * d - 9 else 2 * d

/-- The sum of a scheme over identity digits given from the check digit leftward (R16, R17). -/
def schemeSum (scheme : CheckScheme) (dataDigits : List Nat) : Nat :=
  match scheme with
  | .none => 0
  | .w31 => checkSum (3 * ·) true dataDigits
  | .w21 => checkSum doubled true dataDigits

/-- The check passes (R14 to R17): the last digit is (10 − S mod 10) mod 10. NONE passes every number. -/
def checkPasses (scheme : CheckScheme) (identity : List Nat) : Bool :=
  match scheme, identity.reverse with
  | .none, _ => true
  | _, [] => false
  | s, check :: dataDigits => check == (10 - schemeSum s dataDigits % 10) % 10

/-! ### Classification (R13, R14) -/

/-- The digits of some characters, none when one is not a digit. -/
def digitsOf : List Byte → Option (List Nat)
  | [] => some []
  | b :: rest =>
    if 0x30 ≤ b.toNat ∧ b.toNat ≤ 0x39 then (digitsOf rest).map ((b.toNat - 0x30) :: ·) else none

/-- The decimal value of some digits. -/
def decimalValue (ds : List Nat) : Nat := ds.foldl (fun acc d => acc * 10 + d) 0

/-- Length and prefix fit an entry (R13). -/
def SymbolFormat.shapeFits (f : SymbolFormat) (sym : List Byte) : Bool :=
  decide (f.minLength ≤ sym.length) && decide (sym.length ≤ f.maxLength) && f.lead.isPrefixOf sym

/-- The identity digits a symbol has under an entry that is not IGNORE, none when one of R13's four conditions fails. -/
def SymbolFormat.identity (f : SymbolFormat) (sym : List Byte) : Option (List Nat) :=
  if f.strip < sym.length then
    (digitsOf (sym.drop f.strip)).filter fun ds => decide (ds.length ≤ 14) && decimalValue ds != 0
  else none

/-- What classification gives (R14): the symbol dropped, or the kind and identity of a Scan Record. -/
inductive Classified
  | dropped
  | scan (kind : ScanKind) (ident : Nat)
  deriving DecidableEq, Repr

/-- The Scan Record kind of an entry's kind; IGNORE makes none. -/
def SymbolKind.scanKind : SymbolKind → ScanKind
  | .borrower => .borrower | .item => .item | .staff => .staff | .command => .command | .ignore => .unreadable

/-- Classification: the first entry that matches decides (R13, R14). -/
def classify : List SymbolFormat → List Byte → Classified
  | [], _ => .scan .unreadable 0
  | f :: rest, sym =>
    if f.shapeFits sym then
      if f.kind = .ignore then .dropped
      else
        match f.identity sym with
        | some ds => if checkPasses f.check ds then .scan f.kind.scanKind (decimalValue ds) else .scan .badCheck (decimalValue ds)
        | none => classify rest sym
    else classify rest sym

/-! ### One step of the assembler (R6 to R11) -/

/-- A carriage return without parity or framing error (R8). -/
def WandChar.isTerminator (c : WandChar) : Bool := c.value == 0x0D && !c.parityError && !c.framingError && !c.isBreak

/-- A line feed that is dropped directly after a terminator (R8). -/
def WandChar.isPlainLineFeed (c : WandChar) : Bool :=
  c.value == 0x0A && !c.parityError && !c.framingError && !c.isBreak && !c.lossNote

/-- A character whose marks or note damage the symbol it is appended to (R4, R7). -/
def WandChar.damages (c : WandChar) : Bool := c.parityError || c.framingError || c.lossNote

/-- A channel after one assembler step, whether the error counter gains 1, and the Scan Record made (R6). -/
structure AssemblerResult where
  channel : Channel
  error : Bool
  record : Option (ScanKind × Nat)
  deriving DecidableEq, Repr

/-- The disposal of a symbol ended by a terminator (R11). `formats` is the live Symbol Format Table, none while the live set is
invalid, when every undamaged symbol is UNREADABLE (R13). -/
def Channel.dispose (formats : Option (List SymbolFormat)) (ch : Channel) (damaged : Bool) : AssemblerResult :=
  let ended := { ch.dropSymbol with afterTerminator := true }
  if damaged then { channel := ended, error := true, record := none }
  else
    match formats with
    | none => { channel := ended, error := false, record := some (.unreadable, 0) }
    | some fs =>
      match classify fs ch.buffer with
      | .dropped => { channel := ended, error := false, record := none }
      | .scan k n => { channel := ended, error := false, record := some (k, n) }

/-- An ordinary character (R7). -/
def Channel.ordinary (ch : Channel) (c : WandChar) : Channel :=
  match ch.assembler with
  | .empty => { ch with assembler := .collecting, buffer := [c.value], damage := c.damages }
  | .collecting =>
    if ch.buffer.length < symbolLength then
      { ch with buffer := ch.buffer ++ [c.value], damage := ch.damage || c.damages }
    else { ch with damage := true, assembler := .discarding }
  | .discarding => ch

/-- Everything a character taken from the FIFO causes (R7 to R11). -/
def Channel.take (formats : Option (List SymbolFormat)) (ch : Channel) (c : WandChar) : AssemblerResult :=
  let cleared := { ch with afterTerminator := false }
  if c.isBreak then { channel := ch.dropSymbol, error := false, record := none }
  else if c.isTerminator then
    match ch.assembler with
    | .empty => { channel := cleared, error := false, record := none }
    | .collecting => ch.dispose formats (ch.damage || c.lossNote)
    | .discarding => ch.dispose formats true
  else if ch.afterTerminator && c.isPlainLineFeed then { channel := cleared, error := false, record := none }
  else { channel := cleared.ordinary c, error := false, record := none }

/-- One step of the assembler: the head of the FIFO taken, the holding stage moved into the tail, and what the character causes
(R3, R6). None when it takes nothing: the FIFO is empty or the scan queue full. -/
def Channel.assemble (formats : Option (List SymbolFormat)) (ch : Channel) : Option AssemblerResult :=
  match ch.fifo with
  | [] => none
  | c :: rest =>
    if ch.queue.length < scanQueueDepth then
      some (Channel.take formats { ch with fifo := rest ++ ch.holding.toList, holding := none } c)
    else none

end Sys2Proof.Machine
end

