-- ==== Sys2Proof/Machine/Tables.lean ====
section
/-! DEFINITION. Reading and changing tables and the Local Loan List: lookups, patches, and the effect a record has whether it applies at its completion or by replay (R59, R65, R67, R116, R117, R119, R120, R137, R138). -/

namespace Sys2Proof.Machine

open Config

/-! ### Sorted lists -/

/-- Insert at its place in key order, or replace the entry with the same key. -/
def upsert {α : Type} (key : α → Nat) (a : α) : List α → List α
  | [] => [a]
  | b :: rest =>
    if key a < key b then a :: b :: rest
    else if key a = key b then a :: rest
    else b :: upsert key a rest

/-- Remove the entries with a key. -/
def removeKey {α : Type} (key : α → Nat) (k : Nat) (l : List α) : List α := l.filter fun a => key a != k

/-! ### Lookups -/

def TableSet.borrower? (t : TableSet) (card : Nat) : Option Borrower := t.borrowers.find? fun b => b.card == card
def TableSet.exception? (t : TableSet) (item : Nat) : Option ItemException := t.exceptions.find? fun e => e.item == item
def findLoan (l : List LoanEntry) (item : Nat) : Option LoanEntry := l.find? fun e => e.item == item

/-- The staff index and entry of a staff number (R102): its position, counted from 0. -/
def TableSet.staff? (t : TableSet) (number : Nat) : Option (Nat × StaffEntry) :=
  (t.staff.zipIdx.find? fun e => e.1.number == number).map fun e => (e.2, e.1)

/-- The class of an item (R59): the override of its exception entry, else the range that holds it, else 0. -/
def TableSet.itemClass (t : TableSet) (item : Nat) : Nat :=
  match (t.exception? item).bind (·.classOverride) with
  | some c => c
  | none => ((t.ranges.find? fun r => decide (r.low ≤ item ∧ item ≤ r.high)).map (·.cls)).getD 0

/-- A Category entry, by index (R100, log 40). -/
def TableSet.category (t : TableSet) (n : Nat) : Category := t.categories.getD n { loanLimit := 0, threshold := 0, capDay := 0 }

/-- The Policy cell of a category and a class (R100, log 40). -/
def TableSet.cell (t : TableSet) (category cls : Nat) : PolicyCell :=
  t.policy.getD (category * 16 + cls) { kind := .notLoanable, period := 0, renewals := 0 }

/-! ### Banks -/

def TableStore.bank (s : TableStore) : BankName → Bank
  | .a => s.bankA
  | .b => s.bankB

def TableStore.setBank (s : TableStore) (n : BankName) (b : Bank) : TableStore :=
  match n with
  | .a => { s with bankA := b }
  | .b => { s with bankB := b }

/-- The live bank's tables (R103). -/
def TableStore.liveTables (s : TableStore) : TableSet := (s.bank s.live).tables

/-- The standby bank (R103). -/
def TableStore.standbyBank (s : TableStore) : Bank := s.bank s.live.other

/-- A change of the live Borrower and Item Exception tables, each changed table written with its new stored CRC as one unit (R120). -/
def Bank.rewrite (b : Bank) (new : TableSet) : Bank :=
  let c0 := if new.borrowers = b.tables.borrowers then b.crcs else b.crcs.set 0 (new.crc .borrower)
  let c1 := if new.exceptions = b.tables.exceptions then c0 else c0.set 1 (new.crc .itemException)
  { tables := new, crcs := c1 }

/-- The live bank changed (R120). -/
def TableStore.rewriteLive (s : TableStore) (f : TableSet → TableSet) : TableStore :=
  s.setBank s.live ((s.bank s.live).rewrite (f s.liveTables))

/-- One standby table's state changed (R104). -/
def TableStore.setStandby (s : TableStore) (t : TableId) (v : Standby) : TableStore := { s with standby := s.standby.set t.index v }

/-- One standby table's state. -/
def TableStore.standbyOf (s : TableStore) (t : TableId) : Standby := s.standby[t.index]

/-- Any table of the standby bank LOADING or COPYING (R105, R109). -/
def TableStore.filling (s : TableStore) : Bool :=
  s.standby.toList.any fun e => e.state == .loading || e.state == .copying

/-- The commit is VALIDATING or REPLAYING (R105 to R118). -/
def TableStore.committing (s : TableStore) : Bool := s.commit.state == .validating || s.commit.state == .replaying

/-! ### Patches (R116, R117, R119) -/

/-- The flags a borrower has after naming some to be set. -/
def BorrowerFlags.union (f m : BorrowerFlags) : BorrowerFlags :=
  { adminBlock := f.adminBlock || m.adminBlock, overdueBlock := f.overdueBlock || m.overdueBlock, lost := f.lost || m.lost }

/-- The flags a borrower has after naming some to be cleared. -/
def BorrowerFlags.without (f m : BorrowerFlags) : BorrowerFlags :=
  { adminBlock := f.adminBlock && !m.adminBlock, overdueBlock := f.overdueBlock && !m.overdueBlock, lost := f.lost && !m.lost }

/-- Change the entry of a card, when there is one. -/
def TableSet.changeBorrower (t : TableSet) (card : Nat) (f : Borrower → Borrower) : TableSet :=
  { t with borrowers := t.borrowers.map fun b => if b.card = card then f b else b }

/-- Change the exception entry of an item, when there is one. -/
def TableSet.changeException (t : TableSet) (item : Nat) (f : ItemException → ItemException) : TableSet :=
  { t with exceptions := t.exceptions.map fun e => if e.item = item then f e else e }

/-- Remove the exception entry of an item. -/
def TableSet.dropException (t : TableSet) (item : Nat) : TableSet := { t with exceptions := removeKey (·.item) item t.exceptions }

/-- The effect of a borrower patch on the live Borrower Table (R116). -/
def TableSet.patchBorrower (t : TableSet) (card : Nat) : BorrowerOp → TableSet
  | .setFlags m => t.changeBorrower card fun b => { b with flags := b.flags.union m }
  | .clearFlags m => t.changeBorrower card fun b => { b with flags := b.flags.without m }
  | .setFines n => t.changeBorrower card fun b => { b with fines := n }
  | .setExpiry d => t.changeBorrower card fun b => { b with expiry := d }
  | .insert e => { t with borrowers := upsert (·.card) e t.borrowers }
  | .delete => { t with borrowers := removeKey (·.card) card t.borrowers }

/-- The effect of an item patch on the live Item Exception Table (R117). -/
def TableSet.patchItem (t : TableSet) (item : Nat) : ItemOp → TableSet
  | .insert e => { t with exceptions := upsert (·.item) e t.exceptions }
  | .delete => t.dropException item
  | .setState st card expiry => t.changeException item fun e => { e with state := st, holdCard := card, holdExpiry := expiry }

/-- The effect of a patch on the live tables (R116, R117). An INSERT of an absent key inserts whatever the table's count: the FULL test of
R118 is made on arrival only, and a replayed INSERT may find a table that a load has filled (log 45). -/
def TableSet.patch (t : TableSet) : Patch → TableSet
  | .borrower card op => t.patchBorrower card op
  | .item item op => t.patchItem item op

/-- The record fields that carry a borrower patch (R119, Table 16). -/
def BorrowerOp.record (r : JournalRecord) : BorrowerOp → JournalRecord
  | .setFlags m => { r with reason := 0x80, aux0 := m.code }
  | .clearFlags m => { r with reason := 0x81, aux0 := m.code }
  | .setFines n => { r with reason := 0x82, item := n * 2 ^ 32 }
  | .setExpiry d => { r with reason := 0x83, dueDay := d }
  | .insert e =>
    { r with reason := 0x84, item := e.fines * 2 ^ 32 + twosOf 16 e.thresholdAdjust * 2 ^ 16, dueDay := e.expiry,
             aux0 := e.flags.code + e.category * 16, aux1 := e.snapshot, aux2 := twosOf 8 e.limitAdjust }
  | .delete => { r with reason := 0x85 }

/-- The record fields that carry an item patch (R119, Table 16). -/
def ItemOp.record (r : JournalRecord) : ItemOp → JournalRecord
  | .insert e =>
    { r with reason := 0x90, card := e.holdCard, dueDay := e.holdExpiry.getD 0, aux0 := e.state.code,
             aux1 := e.classOverride.getD 0xFF }
  | .delete => { r with reason := 0x91 }
  | .setState st card expiry => { r with reason := 0x92, card := card, dueDay := expiry.getD 0, aux0 := st.code }

/-- The record fields that carry a patch (R119, Table 16); `blank` gives the sequence and the time. -/
def Patch.record (blank : JournalRecord) : Patch → JournalRecord
  | .borrower card op => op.record { blank with kind := .tablePatch, station := 15, card := card }
  | .item key op => op.record { blank with kind := .tablePatch, station := 15, item := key }

/-- The hold expiry a patch record carries: the due day in HOLD_ON_SHELF, absent in every other state (R99, R119). -/
def expiryOf (st : ExceptionState) (day : Nat) : Option Nat := if st = .holdOnShelf then some day else none

/-- The patch a TABLE_PATCH record carries (R119, Table 16). -/
def patchOf (r : JournalRecord) : Option Patch :=
  match r.reason with
  | 0x80 => some (.borrower r.card (.setFlags (BorrowerFlags.ofCode r.aux0)))
  | 0x81 => some (.borrower r.card (.clearFlags (BorrowerFlags.ofCode r.aux0)))
  | 0x82 => some (.borrower r.card (.setFines (r.item / 2 ^ 32)))
  | 0x83 => some (.borrower r.card (.setExpiry r.dueDay))
  | 0x84 =>
    some (.borrower r.card (.insert
      { card := r.card, category := r.aux0 / 16, flags := BorrowerFlags.ofCode (r.aux0 % 8), snapshot := r.aux1,
        limitAdjust := signedOf 8 r.aux2, fines := r.item / 2 ^ 32, thresholdAdjust := signedOf 16 (r.item / 2 ^ 16 % 2 ^ 16),
        expiry := r.dueDay }))
  | 0x85 => some (.borrower r.card .delete)
  | 0x90 =>
    (ExceptionState.ofCode r.aux0).map fun st =>
      .item r.item (.insert
        { item := r.item, state := st, classOverride := if r.aux1 = 0xFF then none else some r.aux1, holdCard := r.card,
          holdExpiry := expiryOf st r.dueDay })
  | 0x91 => some (.item r.item .delete)
  | 0x92 => (ExceptionState.ofCode r.aux0).map fun st => .item r.item (.setState st r.card (expiryOf st r.dueDay))
  | _ => none

/-! ### Effects of a record (R137, R138) -/

/-- The Local Loan List entry a LOAN record carries (R65). -/
def loanEntryOf (r : JournalRecord) : LoanEntry :=
  { item := r.item, card := r.card, sequence := r.sequence, dueDay := r.dueDay, dueMinute := r.dueMinute, renewals := 0,
    override := r.flags.override, transferred := r.flags.transferred }

/-- The effect of a record on the Local Loan List (R137). -/
def applyToLoans (r : JournalRecord) (l : List LoanEntry) : List LoanEntry :=
  match r.kind with
  | .loan => upsert (·.item) (loanEntryOf r) l
  | .renew =>
    l.map fun e =>
      if e.item = r.item then
        { e with sequence := r.sequence, dueDay := r.dueDay, dueMinute := r.dueMinute, renewals := r.aux1, override := r.flags.override }
      else e
  | .returned => removeKey (·.item) r.item l
  | _ => l

/-- The hold expiry day a RETURN record carries in aux bytes 27 and 28 (Table 16). -/
def JournalRecord.shelfDay (r : JournalRecord) : Nat := r.aux0 * 256 + r.aux1

/-- The effect of a record on the live tables, where its entry is in the state the effect names (R138). -/
def applyToTables (r : JournalRecord) (t : TableSet) : TableSet :=
  match r.kind with
  | .loan | .renew =>
    match r.flags.holdFilled, t.exception? r.item with
    | true, some e =>
      if (e.state = .holdWaiting ∨ e.state = .holdOnShelf) ∧ e.holdCard = r.card then t.dropException r.item else t
    | _, _ => t
  | .returned =>
    match t.exception? r.item with
    | some e =>
      if r.flags.found ∧ e.state = .missing then t.dropException r.item
      else if r.flags.exceptionCleared ∧ e.state = .onLoanElsewhere then t.dropException r.item
      else if r.flags.holdTrapped ∧ e.state = .holdWaiting then
        t.changeException r.item fun e => { e with state := .holdOnShelf, holdExpiry := some r.shelfDay }
      else t
    | none => t
  | .tablePatch =>
    match patchOf r with
    | some p => t.patch p
    | none => t
  | _ => t

/-- Replay: the records applied in order to the list (R141). -/
def replayLoans (rs : List JournalRecord) (l : List LoanEntry) : List LoanEntry := rs.foldl (fun acc r => applyToLoans r acc) l

/-- Replay: the records applied in order to the live tables (R141). -/
def replayTables (rs : List JournalRecord) (t : TableSet) : TableSet := rs.foldl (fun acc r => applyToTables r acc) t

end Sys2Proof.Machine
end

