-- ==== Sys2Proof/Machine/Ops.lean ====
section
/-! DEFINITION. The operations over State that the blocks share: station access, modes, outcomes, desk time, error counters and requests for a journal turn. -/

namespace Sys2Proof.Machine

open Config

/-! ### Desk time (R128) -/

/-- Now, as a record carries it: undated while the clock is unset (R128). -/
def Clock.stamp (c : Clock) : Stamp :=
  if c.isSet then { day := c.day, minute := c.minute } else { day := undated, minute := 0 }

/-- The clock one second on (R75), or halted at the end of its range (R76). -/
def Clock.advance (c : Clock) : Clock :=
  if c.halted then c
  else if c.second < 59 then { c with second := c.second + 1 }
  else if c.minute < 1439 then { c with second := 0, minute := c.minute + 1 }
  else if c.day < lastDay then { c with second := 0, minute := 0, day := c.day + 1 }
  else { c with halted := true, isSet := false }

/-- The clock so many seconds on. -/
def Clock.advanceBy : Nat → Clock → Clock
  | 0, c => c
  | n + 1, c => Clock.advanceBy n c.advance

/-! ### Stations -/

/-- A session changed. -/
def State.onSession (s : State) (i : Station) (f : Session → Session) : State :=
  { s with sessions := s.sessions.set i (f s.sessions[i]) }

/-- The effective mode of a station (R24). -/
def State.mode (s : State) (i : Station) : Mode :=
  match s.config.stations[i].mode with
  | .outOfService => .outOfService
  | m =>
    if s.config.stations[i].selectorEnabled then
      match s.levels.selector[i] with
      | .loan => .loan
      | .returns => .returns
    else m

/-- The station is OUT_OF_SERVICE. -/
def State.outOfService (s : State) (i : Station) : Bool := s.mode i == .outOfService

/-- A channel changed, and its hold line tested (R5). -/
def State.onChannel (s : State) (i : Station) (f : Channel → Channel) : State :=
  { s with channels := s.channels.set i ((f s.channels[i]).retest (s.outOfService i)) }

/-- The stations are enabled: start-up has ended (R193). -/
def State.enabled (s : State) : Bool := s.running && s.phase == .started

/-- The intervals of an outcome whose ends OUTCOME_PATTERN_TIMER reports: its beeps and the silences between them, or its flashes;
the last flash ends with the pattern (R22, log 33). -/
def OutcomeKind.intervals : OutcomeKind → Nat
  | .grant | .staffOk | .ack | .closed => 1
  | .commandOk | .refusal => 3
  | .lostCard => 5
  | .holdTrapped => 11
  | .returnOk => 0

/-- The beep sequence of a pattern is not over (R22); HOLD_TRAPPED's intervals are flashes. -/
def Pattern.beeping (p : Pattern) : Bool := p.outcome != .holdTrapped && decide (p.interval < p.outcome.intervals)

/-- A pattern whose lamp part ends: the beeper sounds through its beep sequence, and the pattern is over when that is (R22). -/
def Pattern.unlit (p : Pattern) : Option Pattern := if p.beeping then some { p with lit := false } else none

/-- An outcome named for a station is shown, unless the station is OUT_OF_SERVICE or not yet enabled (R21, R22). -/
def State.display (s : State) (i : Station) (o : OutcomeKind) : State :=
  if s.enabled && !s.outOfService i then
    { s with channels := s.channels.set i { s.channels[i] with pattern := some { outcome := o, interval := 0, lit := true } } }
  else s

/-- A running pattern ended at once, its beeper with it (R21). -/
def State.darken (s : State) (i : Station) : State :=
  { s with channels := s.channels.set i { s.channels[i] with pattern := none } }

/-- A condition latched (R188). -/
def State.latch (s : State) (c : Condition) : State := { s with latched := s.latched.put true c }

/-- A station's error counter gains 1, held at 255; the step from 15 to 16 latches WAND_FAULT (R19). -/
def State.countError (s : State) (i : Station) : State :=
  let n := s.channels[i].errors
  let counted := { s with channels := s.channels.set i { s.channels[i] with errors := min 255 (n + 1) } }
  if n = 15 then counted.latch (.wandFault i) else counted

/-- Scan Records of an OUT_OF_SERVICE station are discarded, unless its session is CLOSING (R27, log 19). -/
def State.discardScans (s : State) (i : Station) : State :=
  if s.outOfService i && s.sessions[i].state != .closing then s.onChannel i fun ch => { ch with queue := [] } else s

/-- The live Symbol Format Table as classification reads it; none while the live set is invalid (R13). -/
def State.formats (s : State) : Option (List SymbolFormat) :=
  if s.tables.valid then some s.tables.liveTables.symbols else none

/-! ### Requests for a journal turn (R133) -/

/-- A request joins the tail of the request order (R133). -/
def State.ask (s : State) (r : Requester) : State :=
  { s with journal := { s.journal with requests := s.journal.requests ++ [r] } }

/-- The station has a scan at the Decision Engine (R29). -/
def State.inFlight (s : State) (i : Station) : Bool :=
  match s.engine.decision with
  | some d => d.station == i
  | none => false

/-- A nonvolatile operation is in progress: a record write, a page erase, that of recovery in phase 1 among them (R143), or a Configure
store (R145, R192). -/
def State.storing (s : State) : Bool :=
  (match s.journal.writer with | .writing .. => true | _ => false)
    || s.journal.eraseMarker.isSome || s.configStore.isSome

/-- The unrecorded-refusal counter gains 1, held at 65535 (R51, R153). -/
def Engine.countUnrecorded (e : Engine) : Engine := { e with unrecorded := min 65535 (e.unrecorded + 1) }

/-- A latched condition cleared with its counter (R189). -/
def State.clearCondition (s : State) (c : Condition) : State :=
  let cleared := { s with latched := s.latched.put false c }
  match c with
  | .wandFault i => { cleared with channels := s.channels.set i { s.channels[i] with errors := 0, overrun := false } }
  | .linkErrors => { cleared with link := { s.link with errors := 0 } }
  | _ => cleared

/-- Clear Conditions with a mask of bits 0 to 17 and 31 (R189): every named latched condition with its counter, and under bit 31
the unrecorded-refusal counter. A mark that names a level condition has no effect. -/
def State.clearConditions (s : State) (mask : BitVec 32) : State :=
  let cleared := (Condition.all.filter fun c => mask.getLsbD c.bit).foldl State.clearCondition s
  if mask.getLsbD 31 then { cleared with engine := { cleared.engine with unrecorded := 0 } } else cleared

/-- The mask of all nine latched conditions and bit 31 (R42, R189). -/
def allLatched : BitVec 32 := 0x8003FE00

end Sys2Proof.Machine
end

