-- ==== Sys2Proof/Machine/ClockEvents.lean ====
section
/-! DEFINITION. The time base (R75 to R77, R80). -/

namespace Sys2Proof.Machine

/-- An edge counted for a clock request whose record is being written (R80). -/
def ClockRequest.countEdge (q : ClockRequest) : ClockRequest :=
  match q.phase with
  | .writing day minute second edges => { q with phase := .writing day minute second (edges + 1) }
  | .awaitingTurn => q

/-- A rising edge (R75 to R77): the clock goes on in COUNTING, and the monitor is no longer lost. -/
def Clock.edge (c : Clock) : Clock := { c.advance with lost := false, request := c.request.map ClockRequest.countEdge }

/-- TIMEBASE_EDGE (R75 to R77). It is taken in reset too (R81). -/
def execTimebaseEdge (s : State) : Host.Outcome State Fault Refusal :=
  finish s (if s.life = .off then s else { s with clock := s.clock.edge })

/-- TIMEBASE_LOSS (R77). -/
def execTimebaseLoss (s : State) : Host.Outcome State Fault Refusal :=
  finish s (if s.life = .off then s else { s with clock := { s.clock with lost := true } })

end Sys2Proof.Machine
end

