-- ==== Sys2Proof/Machine/Slips.lean ====
section
/-! DEFINITION. Slips and the printer port: rendering (R158 to R160), the slip queue (R156, R157), port states (R162 to R164), the stall timer (R166) and Printer Control (R167 to R170). -/

namespace Sys2Proof.Machine

open Config

/-! ### Rendering (R159, R160) -/

/-- A masked card: six asterisks and the last 4 digits (R160). -/
def maskedCard (card : Nat) : List Byte := ascii (List.replicate 6 '*') ++ digits 4 card

/-- The space and R of a renewed entry's lines (R159). -/
def renewedMark (renewed : Bool) : List Byte := if renewed then ascii [' ', 'R'] else []

/-- The two lines of a loan slip's entry (R159, lines 5 and 6). -/
def entryLines (g : Granted) : List (List Byte) :=
  [ascii ['I', 'T', 'E', 'M', ' '] ++ decimal g.item ++ renewedMark g.renewed,
   ascii ['D', 'U', 'E', ' '] ++ dateText g.dueDay ++ ascii [' '] ++ minuteText g.dueMinute ++ renewedMark g.renewed]

/-- Lines 4 to 7 of a slip (R159). -/
def bodyLines (card : Nat) : SlipBody → List (List Byte)
  | .loan entries =>
    [ascii ['B', 'O', 'R', 'R', 'O', 'W', 'E', 'R', ' '] ++ maskedCard card] ++ entries.flatMap entryLines
      ++ [ascii ['I', 'T', 'E', 'M', 'S', ' '] ++ decimal entries.length]
  | .hold item expiry =>
    [ascii ['H', 'O', 'L', 'D', ' ', 'F', 'O', 'R', ' '] ++ maskedCard card, ascii ['I', 'T', 'E', 'M', ' '] ++ decimal item,
     ascii ['S', 'H', 'E', 'L', 'F', ' ', 'U', 'N', 'T', 'I', 'L', ' '] ++ dateText expiry]

/-- The lines of a slip (R159). -/
def slipLines (title footer1 footer2 : List Byte) (s : Slip) : List (List Byte) :=
  [title, dateText s.time.day ++ ascii [' '] ++ timeText s.time ++ ascii [' ', ' ', 'S', 'T', ' '] ++ decimal s.station.val]
    ++ (if s.copy then [ascii ['*', '*', ' ', 'C', 'O', 'P', 'Y', ' ', '*', '*']] else [])
    ++ bodyLines s.card s.body ++ [footer1, footer2].filter fun f => !f.isEmpty

/-- The bytes of a slip: each line with 0Dh 0Ah, three 0Ah and the cut code (R159). -/
def render (c : ConfigRecord) (s : Slip) : List Byte :=
  ((slipLines c.title c.footer1 c.footer2 s).flatMap fun l => l ++ [0x0D, 0x0A]) ++ [0x0A, 0x0A, 0x0A, 0x1C, 0x2E]

/-! ### The port -/

/-- A port state with a current slip (R156). -/
def Port.hasCurrent : Port → Bool
  | .printing | .paused | .stopping => true
  | .idle | .held => false

/-- The stop-asked mark (R162). -/
def SlipUnit.stopAsked (u : SlipUnit) : Bool := u.port == .stopping

/-- A byte of the current slip waits at the print position: it is not being sent (R163, R166). -/
def SlipUnit.waiting (u : SlipUnit) : Bool :=
  u.port.hasCurrent && decide (u.position < u.buffer.length) && (match u.line with | .sending _ _ true => false | _ => true)

/-- The stall timer runs (R166). -/
def SlipUnit.stallTimerRuns (u : SlipUnit) (ready : Bool) : Bool := u.waiting && !ready

/-- The test before a byte (R163): begun, at the printer rate in force (R161), when paper is present and ready asserted, and otherwise a
PRINTING port pauses. While the line still finishes the byte of an aborted slip, no test is made (log 32). -/
def SlipUnit.test (u : SlipUnit) (rate : Nat) (paperOut ready : Bool) : SlipUnit :=
  if u.port.hasCurrent && u.line == .mark && decide (u.position < u.buffer.length) then
    if !paperOut && ready then
      { u with line := .sending (u.buffer.getD u.position 0) rate true, port := if u.port = .paused then .printing else u.port }
    else { u with port := if u.port = .printing then .paused else u.port }
  else u

/-- The head of the queue becomes current and is rendered (R158), and its first byte is tested for (R163). -/
def SlipUnit.begin_ (u : SlipUnit) (c : ConfigRecord) (paperOut ready : Bool) : SlipUnit :=
  match u.queue with
  | [] => { u with port := .idle, buffer := [], position := 0 }
  | s :: _ => SlipUnit.test { u with port := .printing, buffer := render c s, position := 0 } c.printerRate paperOut ready

/-- A slip joins the tail of the queue, and becomes current at once at an IDLE port (R156, R158, R162). -/
def SlipUnit.join (u : SlipUnit) (c : ConfigRecord) (paperOut ready : Bool) (s : Slip) : SlipUnit :=
  let joined := { u with queue := u.queue ++ [s] }
  if u.port = .idle then joined.begin_ c paperOut ready else joined

/-- The current slip's last byte is accepted: it leaves as printed, and the port goes on by its state (R162, R164). -/
def SlipUnit.leave (u : SlipUnit) (c : ConfigRecord) (paperOut ready : Bool) : SlipUnit :=
  let gone := { u with queue := u.queue.tail, lastPrinted := u.queue.head?, buffer := [], position := 0 }
  if u.port = .stopping then { gone with port := .held } else gone.begin_ c paperOut ready

/-- A byte's stop bit has been sent (R163, R164, R169). -/
def SlipUnit.accepted (u : SlipUnit) (c : ConfigRecord) (paperOut ready : Bool) : SlipUnit :=
  match u.line with
  | .mark => u
  | .sending _ _ false => SlipUnit.test { u with line := .mark, stalled := false } c.printerRate paperOut ready
  | .sending _ _ true =>
    let next := { u with line := .mark, stalled := false, position := u.position + 1 }
    if u.position + 1 < u.buffer.length then next.test c.printerRate paperOut ready else next.leave c paperOut ready

/-- The byte being sent is no longer of a current slip (R169). -/
def PrinterLine.orphan : PrinterLine → PrinterLine
  | .mark => .mark
  | .sending b rate _ => .sending b rate false

/-- Stop (R167). -/
def SlipUnit.stop (u : SlipUnit) : SlipUnit :=
  match u.port with
  | .printing | .paused => { u with port := .stopping }
  | .idle => { u with port := .held }
  | .stopping | .held => u

/-- Resume (R168); none where it is answered STATE. -/
def SlipUnit.resume (u : SlipUnit) (c : ConfigRecord) (paperOut ready : Bool) : Option SlipUnit :=
  match u.port with
  | .held => some (u.begin_ c paperOut ready)
  | .stopping => some { u with port := if u.line = .mark then .paused else .printing }
  | .idle | .printing | .paused => none

/-- Abort (R169). -/
def SlipUnit.abort (u : SlipUnit) : SlipUnit :=
  match u.port with
  | .printing | .paused | .stopping =>
    { u with queue := u.queue.tail, buffer := [], position := 0, port := .held, line := u.line.orphan, stalled := false }
  | .idle | .held => { u with port := .held }

/-- Reprint (R170): the status it is answered with, and the unit after it. -/
def SlipUnit.reprint (u : SlipUnit) (c : ConfigRecord) (paperOut ready : Bool) : Status × SlipUnit :=
  match u.lastPrinted with
  | none => (.state, u)
  | some s => if slipQueueDepth ≤ u.queue.length then (.full, u) else (.ok, u.join c paperOut ready { s with copy := true })

/-! ### On the state -/

/-- The port tests again for its waiting byte (R163). -/
def State.portTest (s : State) : State := { s with slips := s.slips.test s.config.printerRate s.levels.paperOut s.ready }

/-- An offer reaches the Slip Unit while the queue has room (R157). -/
def State.joinSlip (s : State) (slip : Slip) : State :=
  { s with slips := s.slips.join s.config s.levels.paperOut s.ready slip }

/-- The slip queue has room for an offer (R157). -/
def State.slipRoom (s : State) : Bool := decide (s.slips.queue.length < slipQueueDepth)

/-- Resume, as Printer Control and the PRINTER_RESUME card ask for it (R42, R168): whether it is answered OK, and the state after. -/
def State.resumePrinter (s : State) : Bool × State :=
  match s.slips.resume s.config s.levels.paperOut s.ready with
  | some u => (true, { s with slips := u })
  | none => (false, s)

/-- Reprint, as Printer Control and the REPRINT card ask for it (R42, R170). -/
def State.reprint (s : State) : Status × State :=
  let r := s.slips.reprint s.config s.levels.paperOut s.ready
  (r.1, { s with slips := r.2 })

end Sys2Proof.Machine
end

