-- ==== Sys2Proof/Machine/Sessions.lean ====
section
/-! DEFINITION. The Station Controller: closing a session (R43 to R46), changes of mode (R24, R25, R27), the arbiter (R28, R29), the scans it settles at the take, and command cards (R41, R42). -/

namespace Sys2Proof.Machine

open Config

/-! ### Closing a session -/

/-- The slip outcome of a close is settled, and its SESSION_CLOSE record asked for (R45). -/
def State.settleSlip (s : State) (i : Station) (o : SlipOutcome) : State :=
  (s.onSession i fun x => { x with slipOutcome := o }).ask (.close i)

/-- A slip goes no further than its station: what follows for a loan slip is the close's record, for a hold slip nothing (R45, R46). -/
def State.slipSettled (s : State) (i : Station) (slip : Slip) (o : SlipOutcome) : State :=
  match slip.body with
  | .loan _ => s.settleSlip i o
  | .hold _ _ => s

/-- A station offers a slip for the first time (R43, R44, R46): taken while the queue has room; else it waits, and a period of 0
drops it at once. -/
def State.offer (s : State) (i : Station) (slip : Slip) : State :=
  if s.slipRoom then (s.joinSlip slip).slipSettled i slip .queued
  else if s.config.slipWait = 0 then (s.latch .slipDropped).slipSettled i slip .dropped
  else s.onSession i fun x => { x with slipWait := some slip }

/-- The close sequence begins (R43); `shown` is the outcome named for it. -/
def State.beginClose (s : State) (i : Station) (shown : Option OutcomeKind) : State :=
  let x := s.sessions[i]
  let closing := s.onSession i fun x =>
    { x with state := .closing, idleTimer := false, lastRefusal := none, closePending := false, closeTime := s.clock.stamp }
  let lit := match shown with
    | some o => closing.display i o
    | none => closing
  if x.granted.isEmpty || !s.config.stations[i].slipsEnabled then lit.settleSlip i .none
  else lit.offer i { station := i, time := s.clock.stamp, card := x.card, body := .loan x.granted, copy := false }

/-- A close asked for from outside the scan stream: pending while the station has a scan at the Decision Engine (R25, R26, R29). -/
def State.closeFromOutside (s : State) (i : Station) : State :=
  if s.inFlight i then s.onSession i fun x => { x with closePending := true } else s.beginClose i (some .closed)

/-! ### Modes -/

/-- What follows for a station whose effective mode was `before` (R25, R27): nothing when it is unchanged; else the window closes and
the pattern ends on entering OUT_OF_SERVICE, an OPEN session closes, waiting scans of an OUT_OF_SERVICE station are discarded, and
the hold line is tested. -/
def State.modeChanged (s : State) (i : Station) (before : Mode) : State :=
  if s.mode i = before then s
  else
    let entered := if s.outOfService i then (s.onSession i fun x => { x with window := none }).darken i else s
    let closed := if s.sessions[i].state = .open_ then entered.closeFromOutside i else entered
    (closed.discardScans i).onChannel i id

/-- The configured mode written into the configuration record (R24), with its effect on the session (R25). -/
def State.setMode (s : State) (i : Station) (m : Mode) : State :=
  State.modeChanged { s with config := { s.config with stations := s.config.stations.set i { s.config.stations[i] with mode := m } } } i
    (s.mode i)

/-! ### The arbiter -/

/-- A station is eligible (R28). -/
def State.eligible (s : State) (i : Station) : Bool :=
  s.enabled && !s.outOfService i && s.sessions[i].state != .closing && s.sessions[i].slipWait.isNone && !s.channels[i].queue.isEmpty

/-- The first eligible station after the one granted last, in the order 0, 1, 2, 3, 0 (R28). -/
def State.nextStation (s : State) : Option Station :=
  [s.lastGranted + 1, s.lastGranted + 2, s.lastGranted + 3, s.lastGranted].find? s.eligible

/-- A scan is taken: the head leaves the queue, the lamps of a LOST_CARD pattern end, any scan but a STAFF scan clears the last refusal, and the
idle timer stops (R22, R29, R34, R35). -/
def State.takeScan (s : State) (i : Station) (scan : ScanRecord) : State :=
  let popped := s.onChannel i fun ch =>
    { ch with queue := ch.queue.tail,
              pattern := ch.pattern.bind fun p => if p.outcome = .lostCard then p.unlit else some p }
  popped.onSession i fun x =>
    { x with lastRefusal := if scan.kind = .staff then x.lastRefusal else none, idleTimer := false }

/-- The idle timer starts again in a session that is still OPEN (R35). -/
def State.restartIdle (s : State) (i : Station) : State :=
  s.onSession i fun x => { x with idleTimer := x.state == .open_ }

/-- A taken scan is sent to the Decision Engine with its session context, and a turn asked for (R29, R48). -/
def State.sendToEngine (s : State) (i : Station) (scan : ScanRecord) (task : Task) (cls : RequestClass) : State :=
  let x := s.sessions[i]
  let d : Decision :=
    { station := i, scan := scan, task := task, sessionState := x.state, card := x.card, guest := x.guest,
      lastRefusal := x.lastRefusal, requestClass := cls }
  State.ask { s with engine := { s.engine with phase := .awaitingTurn, decision := some d, verdict := none } } .engine

/-- The level of a command card (R41); none for a number outside 1 to 8. -/
def commandLevel (n : Nat) : Option Nat :=
  match n with
  | 1 | 2 | 3 | 4 | 5 | 6 | 7 => some 1
  | 8 => some 2
  | _ => none

/-- A command card is obeyed: the station's window is open with a level at least the command's (R41). -/
def Session.obeys (x : Session) (n : Nat) : Bool :=
  match x.window, commandLevel n with
  | some w, some l => decide (l ≤ w.level)
  | _, _ => false

/-- The action of an obeyed command card, its window already closed (R42). -/
def State.command (s : State) (i : Station) (n : Nat) : State :=
  match n with
  | 1 => if s.sessions[i].state = .open_ then s.beginClose i (some .commandOk) else s.display i .commandOk
  | 2 => (s.display i .commandOk).setMode i .loan
  | 3 => (s.display i .commandOk).setMode i .returns
  | 4 => (s.display i .commandOk).setMode i .mixed
  | 5 =>
    let r := s.reprint
    r.2.display i (if r.1 = .ok then .commandOk else .refusal)
  | 6 =>
    let r := s.resumePrinter
    r.2.display i (if r.1 then .commandOk else .refusal)
  | 7 => (s.clearConditions allLatched).display i .commandOk
  | 8 => s.setMode i .outOfService
  | _ => s

/-- A COMMAND scan, settled at the take (R41). -/
def State.commandCard (s : State) (i : Station) (n : Nat) : State :=
  if s.sessions[i].obeys n then (s.onSession i fun x => { x with window := none }).command i n else s.display i .refusal

/-- A scan taken in IDLE (R30). -/
def State.grantIdle (s : State) (i : Station) (scan : ScanRecord) : State :=
  let taken := s.takeScan i scan
  match scan.kind with
  | .borrower =>
    match s.mode i with
    | .returns => taken.display i .ack
    | .loan => taken.sendToEngine i scan .cardLookup .loanClass
    | .mixed | .outOfService => taken.sendToEngine i scan .cardLookup .returnClass
  | .item =>
    match s.mode i with
    | .loan => taken.sendToEngine i scan .noBorrower .returnClass
    | .returns | .mixed | .outOfService => taken.sendToEngine i scan .returnItem .returnClass
  | .staff => taken.sendToEngine i scan .staffCard .returnClass
  | .command => taken.commandCard i scan.ident
  | .unreadable | .badCheck => taken.sendToEngine i scan .badScan .returnClass

/-- A scan granted in OPEN (R33). A card of another borrower is not taken: it closes the session and stays at the head. -/
def State.grantOpen (s : State) (i : Station) (scan : ScanRecord) : State :=
  match scan.kind with
  | .item => (s.takeScan i scan).sendToEngine i scan .loanItem .loanClass
  | .borrower =>
    if scan.ident = s.sessions[i].card then (s.takeScan i scan).beginClose i (some .closed) else s.beginClose i (some .closed)
  | .staff =>
    (s.takeScan i scan).sendToEngine i scan .staffCard
      (if s.sessions[i].lastRefusal.isSome then .loanClass else .returnClass)
  | .command => ((s.takeScan i scan).commandCard i scan.ident).restartIdle i
  | .unreadable | .badCheck => (s.takeScan i scan).sendToEngine i scan .badScan .returnClass

/-- The arbiter may grant: the engine is FREE and no replay runs (R28). -/
def State.mayGrant (s : State) : Bool :=
  s.life == .on && s.engine.phase == .free && s.journal.writer != .replaying

/-- One grant of the arbiter (R28, R29). -/
def State.grant (s : State) : State :=
  if s.mayGrant then
    match s.nextStation with
    | none => s
    | some i =>
      match s.channels[i].queue with
      | [] => s
      | scan :: _ =>
        let granted := { s with lastGranted := i }
        match s.sessions[i].state with
        | .idle => granted.grantIdle i scan
        | .open_ => granted.grantOpen i scan
        | .closing => s
  else s

end Sys2Proof.Machine
end

