-- ==== Sys2Proof/Machine/Desk.lean ====
section
/-! DEFINITION. The desk family: the arbiter's grant and the timers of a session (R28, R35, R38, R44, R46). -/

namespace Sys2Proof.Machine

/-- ARBITER_GRANT (R28, R29). -/
def execArbiterGrant (s : State) : Host.Outcome State Fault Refusal := finish s s.grant

/-- The idle timer of a station runs: its session is OPEN and no scan of it is being handled (R35). -/
def State.idleRuns (s : State) (i : Station) : Bool := s.sessions[i].state == .open_ && s.sessions[i].idleTimer

/-- IDLE_TIMER_EXPIRY (R35, R43). -/
def execIdleTimerExpiry (i : Station) (s : State) : Host.Outcome State Fault Refusal :=
  finish s (if s.running && s.idleRuns i then s.beginClose i (some .closed) else s)

/-- STAFF_WINDOW_EXPIRY (R38). -/
def execStaffWindowExpiry (i : Station) (s : State) : Host.Outcome State Fault Refusal :=
  finish s (if s.running then s.onSession i fun x => { x with window := none } else s)

/-- A station's slip no longer waits. -/
def State.endWait (s : State) (i : Station) : State := s.onSession i fun x => { x with slipWait := none }

/-- The waiting slip of a station dropped at its timer's end (R44, R46). -/
def State.dropWaiting (s : State) (i : Station) (slip : Slip) : State :=
  ((s.endWait i).latch .slipDropped).slipSettled i slip .dropped

/-- SLIP_WAIT_EXPIRY (R44, R46). -/
def execSlipWaitExpiry (i : Station) (s : State) : Host.Outcome State Fault Refusal :=
  finish s
    (match s.running, s.sessions[i].slipWait with
      | true, some slip => s.dropWaiting i slip
      | _, _ => s)

/-- The waiting slip of a station taken by the Slip Unit (R44, R46, R157). -/
def State.takeWaiting (s : State) (i : Station) (slip : Slip) : State :=
  ((s.endWait i).joinSlip slip).slipSettled i slip .queued

/-- SLIP_REOFFER (R44, R157). -/
def execSlipReoffer (i : Station) (s : State) : Host.Outcome State Fault Refusal :=
  finish s
    (match s.running && s.slipRoom, s.sessions[i].slipWait with
      | true, some slip => s.takeWaiting i slip
      | _, _ => s)

end Sys2Proof.Machine
end

