-- ==== Sys2Proof/Machine/Inputs.lean ====
section
/-! DEFINITION. The inputs family: the debounced selector, paper-out and maintenance levels (R20, R24, R122, R163, R165). -/

namespace Sys2Proof.Machine

/-- A station's selector takes a debounced level, with its effect on the mode (R24, R25). -/
def State.selectorMoved (s : State) (i : Station) (level : SelectorLevel) : State :=
  State.modeChanged { s with levels := { s.levels with selector := s.levels.selector.set i level } } i (s.mode i)

/-- The input pins after a change of a selector. -/
def State.selectorPin (s : State) (i : Station) (level : SelectorLevel) : State :=
  { s with pins := { s.pins with selector := s.pins.selector.set i level } }

/-- SELECTOR_CHANGE (R20, R24, R25). While the part does not run only the pin moves (log 6). -/
def execSelectorChange (i : Station) (level : SelectorLevel) (s : State) : Host.Outcome State Fault Refusal :=
  finish s (if s.running then (s.selectorPin i level).selectorMoved i level else s.selectorPin i level)

/-- The paper-out input takes a debounced level, and the port tests again (R163, R165). -/
def State.paperMoved (s : State) (out : Bool) : State :=
  State.portTest { s with pins := { s.pins with paperOut := out }, levels := { s.levels with paperOut := out } }

/-- PAPER_OUT_CHANGE (R20, R163, R165). -/
def execPaperOutChange (out : Bool) (s : State) : Host.Outcome State Fault Refusal :=
  finish s (if s.running then s.paperMoved out else { s with pins := { s.pins with paperOut := out } })

/-- The maintenance input takes a debounced level (R20). -/
def State.maintenanceMoved (s : State) (asserted : Bool) : State :=
  { s with pins := { s.pins with maintenance := asserted }, levels := { s.levels with maintenance := asserted } }

/-- MAINTENANCE_CHANGE (R20, R122). -/
def execMaintenanceChange (asserted : Bool) (s : State) : Host.Outcome State Fault Refusal :=
  finish s (if s.running then s.maintenanceMoved asserted else { s with pins := { s.pins with maintenance := asserted } })

end Sys2Proof.Machine
end

