-- ==== Sys2Proof/Machine/Decisions.lean ====
section
/-! DEFINITION. The Decision Engine: evaluation of card lookups, staff cards, loans, renewals and returns at a turn (R31, R37, R40, R49 to R63, R68 to R74), and the effects of a decision (R50). -/

namespace Sys2Proof.Machine

open Config

/-! ### Records (R71 to R74) -/

/-- A record formed now: the next sequence, the time of R128, every other field empty. -/
def State.recordBase (s : State) (kind : RecordKind) (station : Nat) : JournalRecord :=
  { sequence := s.journal.nextSequence, day := s.clock.stamp.day, minute := s.clock.stamp.minute, kind := kind, station := station,
    reason := 0, flags := { undated := !s.clock.isSet }, card := 0, item := 0, dueDay := 0, dueMinute := 0, aux0 := 0, aux1 := 0,
    aux2 := 0 }

/-- A refusal: at a recorded turn with its REFUSAL record (R73), at an unrecorded turn counted and without one (R51). `staff` is the
staff index of a refusal that ends an override re-evaluation. -/
def State.refusal (s : State) (d : Decision) (recorded : Bool) (reason : Reason) (card item : Nat) (staff : Option Nat)
    (last : RefusalEffect) (window : Option Window) : Verdict :=
  let base := s.recordBase .refusal d.station.val
  { kind := .refused, reason := some reason, outcome := some .refusal, lastRefusal := last, window := window,
    latch := if reason = .itemAlert then some .itemAlert else none, unrecorded := !recorded,
    record :=
      if recorded then
        some { base with reason := reason.code, card := card, item := item, aux0 := staff.getD 0,
                         flags := { base.flags with guest := d.guest, override := staff.isSome } }
      else none }

/-! ### Card lookup (R31) and the scans that are only refused (R30, R33) -/

/-- The card is the borrower card of an OPEN or CLOSING session at another station (R31). -/
def State.cardInUse (s : State) (i : Station) (card : Nat) : Bool :=
  [0, 1, 2, 3].any fun k : Station => k != i && s.sessions[k].state != .idle && s.sessions[k].card == card

/-- A card lookup: the first case of R31's table that applies. -/
def State.lookupCard (s : State) (d : Decision) (recorded : Bool) : Verdict :=
  let card := d.scan.ident
  let refuse := fun r => s.refusal d recorded r card 0 none .keep none
  let found := s.tables.liveTables.borrower? card
  if !s.tables.valid then refuse .tablesInvalid
  else if !recorded then refuse .journalFull
  else if found.any fun b => b.flags.lost then
    { kind := .lostCard, outcome := some .lostCard, latch := some .lostCardPresented,
      record := some { s.recordBase .lostCard d.station.val with reason := Reason.lostCard.code, card := card } }
  else if s.cardInUse d.station card then refuse .cardInUse
  else if found.isNone then
    if s.config.guestMode then { kind := .opened, opens := some true } else refuse .noRecord
  else { kind := .opened, opens := some false }

/-- The card of a session that is OPEN, 0 in IDLE (R73). -/
def Decision.sessionCard (d : Decision) : Nat := if d.sessionState = .open_ then d.card else 0

/-- An UNREADABLE or BAD_CHECK scan (R73). -/
def State.refuseScan (s : State) (d : Decision) (recorded : Bool) : Verdict :=
  match d.scan.kind with
  | .badCheck => s.refusal d recorded .badCheck d.sessionCard d.scan.ident none .keep none
  | _ => s.refusal d recorded .unreadable d.sessionCard 0 none .keep none

/-! ### Loans and renewals (R52 to R63) -/

/-- The borrower of a guest session (R32). -/
def ConfigRecord.guest (c : ConfigRecord) (card : Nat) : Borrower :=
  { card := card, category := c.guestCategory, flags := { adminBlock := false, overdueBlock := false, lost := false }, snapshot := 0,
    limitAdjust := 0, fines := 0, thresholdAdjust := 0, expiry := 0 }

/-- The borrower of a decision (R49); none when check 5 fails (R55). -/
def State.borrowerOf (s : State) (d : Decision) : Option Borrower :=
  if d.guest then some (s.config.guest d.card) else s.tables.liveTables.borrower? d.card

/-- A sum brought back to the nearer end of 0 to `top` (R52). -/
def clampTo (top : Nat) (v : Int) : Nat := min top v.toNat

/-- The effective limit (R52). -/
def effectiveLimit (c : Category) (b : Borrower) : Nat := clampTo 99 (c.loanLimit + b.limitAdjust)

/-- The effective fines threshold (R52). -/
def effectiveThreshold (c : Category) (b : Borrower) : Nat := clampTo 65535 (c.threshold + b.thresholdAdjust)

/-- The current loans of a borrower: the snapshot and the Local Loan List entries of the card (R52). -/
def currentLoans (loans : List LoanEntry) (card : Nat) (b : Borrower) : Nat :=
  b.snapshot + (loans.filter fun e => e.card == card).length

/-- The reason a check fails with, when it fails. -/
def failing (c : Bool) (r : Reason) : Option Reason := if c then some r else none

/-- A HOLD_ON_SHELF entry is lapsed when its expiry day is before today (R56). -/
def ItemException.lapsed (e : ItemException) (today : Nat) : Bool :=
  e.state == .holdOnShelf && decide (e.holdExpiry.getD 0 < today)

/-- The entry is a hold in force: HOLD_WAITING, or HOLD_ON_SHELF not lapsed (R56). -/
def ItemException.holds (e : ItemException) (today : Nat) : Bool :=
  e.state == .holdWaiting || (e.state == .holdOnShelf && !e.lapsed today)

/-- Check 9 (R56). -/
def exceptionCheck (e : Option ItemException) (card today : Nat) : Option Reason :=
  match e with
  | none => none
  | some e =>
    match e.state with
    | .notForLoan => some .notForLoan
    | .missing => some .itemAlert
    | .onLoanElsewhere => some .onLoan
    | .holdWaiting | .holdOnShelf => failing (e.holds today && e.holdCard != card) .held

/-- The decision is hold-filling: the item is held, in force, for the session's card (R56). -/
def holdFilling (e : Option ItemException) (card today : Nat) : Bool := e.any fun e => e.holds today && e.holdCard == card

/-- Check 11 (R58): another card's entry, or an own entry with no renewal left. -/
def renewalCheck (e : Option LoanEntry) (card maximum : Nat) : Option Reason :=
  match e with
  | none => none
  | some e => if e.card ≠ card then some .onLoan else failing (decide (maximum ≤ e.renewals)) .renewLimit

/-- Everything a loan evaluation reads besides the desk's state: the borrower, the category, the item's exception entry, its Local Loan
List entry and its policy cell (R49, R59). -/
structure LoanCase where
  borrower : Borrower
  category : Category
  exception : Option ItemException
  entry : Option LoanEntry
  cell : PolicyCell
  deriving DecidableEq, Repr

/-- What the evaluation of an item reads at the turn. When no borrower is found check 5 refuses, whatever the rest is. -/
def State.loanCase (s : State) (d : Decision) (item : Nat) : LoanCase :=
  let t := s.tables.liveTables
  let b := (s.borrowerOf d).getD (s.config.guest d.card)
  { borrower := b, category := t.category b.category, exception := t.exception? item, entry := findLoan s.loans item,
    cell := t.cell b.category (t.itemClass item) }

/-- Checks 1 to 9 of R53, each with the reason it fails with. -/
def State.checksTo9 (s : State) (d : Decision) (recorded : Bool) (k : LoanCase) : List (Option Reason) :=
  [failing (!s.tables.valid) .tablesInvalid,
   failing (!s.clock.isSet) .clockUnset,
   failing (decide (grantedLength ≤ s.sessions[d.station].granted.length)) .sessionFull,
   failing (!recorded) .journalFull,
   failing (s.borrowerOf d).isNone .noRecord,
   failing (k.borrower.expiry != 0 && decide (k.borrower.expiry < s.clock.day)) .expired,
   failing (k.borrower.flags.adminBlock || k.borrower.flags.overdueBlock) .blocked,
   failing (decide (effectiveThreshold k.category k.borrower < k.borrower.fines)) .fines,
   exceptionCheck k.exception d.card s.clock.day]

/-- Checks 11 to 14 of R53. -/
def State.checksFrom11 (s : State) (d : Decision) (k : LoanCase) : List (Option Reason) :=
  [renewalCheck k.entry d.card k.cell.renewals,
   failing (k.cell.kind == .notLoanable) .notLoanable,
   failing (!(k.entry.any fun e => e.card == d.card)
     && decide (effectiveLimit k.category k.borrower < currentLoans s.loans d.card k.borrower + 1)) .limit,
   failing (k.entry.isNone && decide (loanListLength ≤ s.loans.length)) .localFull]

/-- The first check that fails, passing over those whose reason is overridden (R53, R62). -/
def firstFailing (overridden : List Reason) (checks : List (Option Reason)) : Option Reason :=
  checks.findSome? fun c => c.filter fun r => !overridden.contains r

/-- The due time of a grant (R61). -/
def State.dueOf (s : State) (k : LoanCase) : Due :=
  let expiry := if s.clock.day ≤ k.borrower.expiry then k.borrower.expiry else 0
  s.tables.liveTables.calendar.dueTime k.cell s.clock.day s.clock.minute expiry k.category.capDay

/-- A grant: its record (R71) and effects (R61). `staff` is the overriding staff index. -/
def State.grantOf (s : State) (d : Decision) (item : Nat) (k : LoanCase) (staff : Option Nat) (window : Option Window) : Verdict :=
  let due := s.dueOf k
  let renewing := k.entry.any fun e => e.card == d.card
  let base := s.recordBase (if renewing then .renew else .loan) d.station.val
  let flags : RecordFlags :=
    { due.flags with
      undated := base.flags.undated, guest := d.guest, override := staff.isSome, transferred := k.entry.any fun e => e.card != d.card,
      holdFilled := holdFilling k.exception d.card s.clock.day }
  { kind := if renewing then .renew else .loan, outcome := some .grant, lastRefusal := .clear, window := window,
    granted := some { item := item, dueDay := due.day, dueMinute := due.minute, renewed := renewing },
    record := some
      { base with
        card := d.card, item := item, dueDay := due.day, dueMinute := due.minute, flags := flags, aux0 := staff.getD 0,
        aux1 := match k.entry with
          | some e => if e.card = d.card then min 15 (e.renewals + 1) else 0
          | none => 0 } }

/-- The loan evaluation of an item, with the reasons overridden so far (R53, R62): a refusal, a duplicate (R57) or a grant (R61). -/
def State.evaluateLoan (s : State) (d : Decision) (recorded : Bool) (item : Nat) (overridden : List Reason) (staff : Option Nat)
    (window : Option Window) : Verdict :=
  let k := s.loanCase d item
  let refuse := fun r =>
    s.refusal d recorded r d.card item staff (.set { item := item, reason := r, overridden := overridden }) window
  match firstFailing overridden (s.checksTo9 d recorded k) with
  | some r => refuse r
  | none =>
    if s.sessions[d.station].granted.any fun g => g.item == item then
      { kind := .duplicate, outcome := some .ack, lastRefusal := .clear, window := window }
    else
      match firstFailing overridden (s.checksFrom11 d k) with
      | some r => refuse r
      | none => s.grantOf d item k staff window

/-! ### Staff cards (R37, R40) -/

/-- The overridden set with one more reason (R40). -/
def addReason (r : Reason) (l : List Reason) : List Reason := if l.contains r then l else l ++ [r]

/-- A staff lookup, and the override attempt it is when the session was OPEN with a last refusal (R37, R40). -/
def State.lookupStaff (s : State) (d : Decision) (recorded : Bool) : Verdict :=
  match (if s.tables.valid then s.tables.liveTables.staff? d.scan.ident else none) with
  | none => s.refusal d recorded .unreadable d.sessionCard d.scan.ident none .keep none
  | some (index, entry) =>
    let window : Option Window := some { index := index, level := entry.level }
    match (if d.sessionState = .open_ then d.lastRefusal else none) with
    | none => { kind := .staffFound, outcome := some .staffOk, window := window }
    | some lr =>
      if !recorded then s.refusal d false .journalFull d.sessionCard lr.item none .keep window
      else if s.config.sufficient entry.level lr.reason then
        s.evaluateLoan d recorded lr.item (addReason lr.reason lr.overridden) (some index) window
      else { kind := .refused, reason := some lr.reason, outcome := some .refusal, window := window }

/-! ### Returns (R68 to R72) -/

/-- Now is after a due time (R70). -/
def Clock.isAfter (c : Clock) (day minute : Nat) : Bool := decide (day < c.day) || (c.day == day && decide (minute < c.minute))

/-- The hold a dated return traps (R69): the item's HOLD_WAITING entry. -/
def State.trapped (s : State) (item : Nat) : Option ItemException :=
  if s.clock.isSet then (s.tables.liveTables.exception? item).filter fun e => e.state == .holdWaiting else none

/-- The exception flags of a return (R69). -/
def exceptionFlags (dated : Bool) (e : Option ItemException) (expiry : Due) (f : RecordFlags) : RecordFlags :=
  match e.map ItemException.state with
  | some .missing => { f with found := true }
  | some .onLoanElsewhere => { f with exceptionCleared := true }
  | some .holdOnShelf => { f with holdAlready := true }
  | some .holdWaiting =>
    if dated then
      { f with holdTrapped := true, dateSaturated := expiry.flags.dateSaturated, rollLimit := expiry.flags.rollLimit,
               beyondHorizon := expiry.flags.beyondHorizon }
    else f
  | _ => f

/-- The RETURN record (R70, R72). -/
def State.returnRecord (s : State) (d : Decision) (item : Nat) : JournalRecord :=
  let base := s.recordBase .returned d.station.val
  let expiry := s.tables.liveTables.calendar.holdExpiry s.clock.day
  let entry := findLoan s.loans item
  let flags := exceptionFlags s.clock.isSet (s.tables.liveTables.exception? item) expiry
    { base.flags with guest := d.guest, late := s.clock.isSet && entry.any fun e => s.clock.isAfter e.dueDay e.dueMinute }
  { base with
    item := item, card := (entry.map (·.card)).getD 0, dueDay := (entry.map (·.dueDay)).getD 0,
    dueMinute := (entry.map (·.dueMinute)).getD 0, flags := flags,
    aux0 := if flags.holdTrapped then expiry.day / 256 else 0, aux1 := if flags.holdTrapped then expiry.day % 256 else 0 }

/-- A return (R68). -/
def State.evaluateReturn (s : State) (d : Decision) (recorded : Bool) : Verdict :=
  let item := d.scan.ident
  if !s.tables.valid then s.refusal d recorded .tablesInvalid 0 item none .keep none
  else
    let r := s.returnRecord d item
    { kind := .returned, outcome := some (if r.flags.holdTrapped then .holdTrapped else .returnOk), record := some r,
      latch := if r.flags.found then some .itemAlert else none,
      holdSlip := (s.trapped item).map fun e =>
        { station := d.station, time := { day := r.day, minute := r.minute }, card := e.holdCard, body := .hold item r.shelfDay,
          copy := false } }

/-- The evaluation of a scan at its turn (R48, R49). -/
def State.evaluate (s : State) (d : Decision) (recorded : Bool) : Verdict :=
  match d.task with
  | .cardLookup => s.lookupCard d recorded
  | .noBorrower => s.refusal d recorded .noBorrower 0 d.scan.ident none .keep none
  | .badScan => s.refuseScan d recorded
  | .returnItem => s.evaluateReturn d recorded
  | .loanItem => s.evaluateLoan d recorded d.scan.ident [] none none
  | .staffCard => s.lookupStaff d recorded

/-! ### Effects of a decision (R50) -/

/-- The last refusal after a decision (R34). -/
def RefusalEffect.apply (old : Option LastRefusal) : RefusalEffect → Option LastRefusal
  | .keep => old
  | .clear => none
  | .set r => some r

/-- The session after a decision's effects: opened (R31), its granted list and last refusal (R33, R34), its staff window (R38), and the
idle timer started again when it is OPEN (R35). A window opened at an OUT_OF_SERVICE station closes (R25). -/
def Session.decided (x : Session) (card : Nat) (v : Verdict) (outOfService : Bool) : Session :=
  let y := match v.opens with
    | some guest =>
      { x with state := .open_, card := card, guest := guest, granted := [], lastRefusal := none, closePending := false }
    | none => { x with granted := x.granted ++ v.granted.toList, lastRefusal := v.lastRefusal.apply x.lastRefusal }
  { y with
    window := if outOfService then none else (match v.window with | some w => some w | none => x.window),
    idleTimer := y.state == .open_ }

/-- A latch that a decision asks for (R74). -/
def State.latchFor (s : State) : Option Condition → State
  | some c => s.latch c
  | none => s

/-- The outcome a decision names (R50). -/
def State.displayFor (s : State) (i : Station) : Option OutcomeKind → State
  | some o => s.display i o
  | none => s

/-- A trapped hold's slip, offered when slips are enabled for the station (R46). -/
def State.offerHold (s : State) (i : Station) : Option Slip → State
  | some slip => if s.config.stations[i].slipsEnabled then s.offer i slip else s
  | none => s

/-- A close that a decision's effects bring: a pending one (R29), or that of a session just opened at a station whose effective mode is
RETURN or OUT_OF_SERVICE (R25). -/
def State.closeAfter (s : State) (i : Station) (opened : Bool) : State :=
  let wrong := match s.mode i with | .returns | .outOfService => true | .loan | .mixed => false
  if s.sessions[i].state = .open_ && (s.sessions[i].closePending || (opened && wrong)) then s.beginClose i (some .closed) else s

/-- The result a decision leaves at its station (R50). -/
def Verdict.result (v : Verdict) (ident sequence : Nat) : LastResult :=
  { kind := v.kind, reason := v.reason, ident := ident, sequence := sequence }

/-- The engine after a decision's effects: FREE, with the result set and an unrecorded refusal counted (R48, R50, R51). -/
def Engine.decided (e : Engine) (d : Decision) (v : Verdict) (sequence : Nat) : Engine :=
  let freed := { e with phase := .free, decision := none, verdict := none, last := e.last.set d.station (some (v.result d.scan.ident sequence)) }
  if v.unrecorded then freed.countUnrecorded else freed

/-- The effects of a decision besides those of its record on the list and the tables, all together (R50). -/
def State.applyVerdict (s : State) (d : Decision) (v : Verdict) (sequence : Nat) : State :=
  let i := d.station
  let freed := { s with engine := s.engine.decided d v sequence }
  let inSession := freed.onSession i fun x => x.decided d.scan.ident v (s.outOfService i)
  let shown := ((inSession.latchFor v.latch).displayFor i v.outcome).offerHold i v.holdSlip
  shown.closeAfter i v.opens.isSome

end Sys2Proof.Machine
end

