-- ==== Sys2Proof/Machine/Start.lean ====
section
/-! DEFINITION. Starting again: what the resets do to every block (R23, R47, R48, R81, R125, R145, R171, R172, R178, R191), the start-up phases (R126, R141, R193), power loss (R143, R192) and Restart (R182). -/

namespace Sys2Proof.Machine

open Config

/-- A table that was LOADING or COPYING becomes FAILED with failure code STATE (R125). -/
def Standby.afterReset (b : Standby) : Standby :=
  match b.state with
  | .loading | .copying => { b with state := .failed, failure := some .state }
  | _ => b

/-- The Table Store at any start (R125). -/
def TableStore.afterReset (t : TableStore) : TableStore :=
  { t with standby := t.standby.map Standby.afterReset, load := none, copy := none, commit := Commit.idle, patch := none }

/-- The access level at the end of the link's reset (R178). -/
def Link.startLevel (l : Link) : Nat := if l.code2 = 0xFFFFFFFF then 2 else if l.code1 = 0xFFFFFFFF then 1 else 0

/-- The link after any reset (Table 12, R172, R178). -/
def Link.afterReset (l : Link) (rate : Nat) : Link :=
  { l with
    receiver := .waitMark, length := 0, type := 0, payload := [], crc := 0, crcHigh := 0, tx := [], sending := none,
    access := l.startLevel, errors := 0, rate := rate, rateReady := false, shut := false }

/-- The Decision Engine after any reset; the unrecorded-refusal counter is kept (Table 4). -/
def Engine.afterReset (e : Engine) : Engine :=
  { e with phase := .free, decision := none, verdict := none, last := Vector.replicate 4 none }

/-- Every block's reset (R23, R47, R48, R81, R125, R145, R171, Table 12). The clock, the latched conditions, the unrecorded-refusal
counter and all nonvolatile state are kept. -/
def State.resetBlocks (s : State) : State :=
  { s with
    channels := Vector.replicate 4 Channel.afterReset, sessions := Vector.replicate 4 Session.afterReset, lastGranted := 3,
    engine := s.engine.afterReset, loans := [], tables := s.tables.afterReset, journal := s.journal.afterReset,
    clock := { s.clock with request := none }, slips := SlipUnit.afterReset, link := s.link.afterReset s.config.linkRate,
    configStore := none, phase := .recovery }

/-- Start-up begins: the cause is held, and the first samples become the debounced levels (R20, R192, R193). -/
def State.startUp (s : State) (cause : Cause) : State :=
  { s with life := .on, phase := .recovery, startCause := cause, heldCause := some cause, levels := s.pins }

/-- Power-on (R192): what it does besides the reset of every block: the clock (R81), the latched conditions (R191), the
unrecorded-refusal counter (R153) and a stored POWER_LOCKED (R122). -/
def State.powerOn (s : State) : State :=
  let b := s.resetBlocks
  let lock := if b.tables.protection.lock = .powerLocked then .opened else b.tables.protection.lock
  State.startUp
    { b with
      clock := Clock.afterPowerOn, latched := Latched.none, engine := { b.engine with unrecorded := 0 },
      tables := { b.tables with protection := { b.tables.protection with lock := lock } } }
    .powerOn

/-- The Restart of a part in which no nonvolatile operation is in progress any longer (R182, R192). -/
def State.restartNow (s : State) : State :=
  if s.life == .waitRestart && !s.storing then s.resetBlocks.startUp .restartRequest else s

/-- A completion that takes the part from `s` to `t`, after which a Restart that waited for it goes on. The notice that the completion
begins waits when the Restart comes, and is lost with it (R145, R177, R182). -/
def finishStore (s t : State) : Host.Outcome State Fault Refusal :=
  let settled := settle s t
  finish settled settled.restartNow

/-- What a reset in phase 1 lets complete before the part enters it: a torn slot's return to blank (R143), so that the next start finds
none (R145, R154, log 41). -/
def State.repaired (s : State) : State := if s.phase = .recovery then { s with journal := s.journal.dropTorn } else s

/-- The part enters reset once the operations in progress are complete (R192); with the input already released, start-up begins
(log 9). -/
def State.enterReset (s : State) : State :=
  if s.life == .waitReset && !s.storing then
    if s.resetLine then { s.repaired.resetBlocks with life := .inReset } else s.repaired.resetBlocks.startUp .resetLine
  else s

/-- What a power loss leaves of the slot being written (R143). -/
def Journal.cut (j : Journal) (left : SlotCut) : Journal :=
  match j.writer with
  | .writing r _ =>
    match left with
    | .blank => { j with writer := .idle }
    | .torn => { j with writer := .idle, slots := putSlot j.headSlot .torn j.slots }
    | .whole => { j with writer := .idle, slots := putSlot j.headSlot (.record r) j.slots }
  | _ => { j with writer := .idle }

/-- The supply fails (R143, R184, R192): a slot write and a Configure store are cut, an erase leaves its marker, and the part stops. -/
def State.losePower (s : State) (left : SlotCut) (configureStored : Bool) : State :=
  if s.life = .off then s
  else
    { s with
      life := .off, journal := s.journal.cut left, configStore := none,
      config := match s.configStore with
        | some c => if configureStored then c else s.config
        | none => s.config }

/-- An interrupted flip completed from the newest TABLE_COMMIT record (R126). -/
def TableStore.completeFlip (t : TableStore) (newest : Option JournalRecord) : TableStore :=
  match newest with
  | some r =>
    if t.live ≠ BankName.ofCode r.aux0 ∨ t.basis ≠ r.item then
      { t with live := BankName.ofCode r.aux0, basis := r.item, valid := true, standby := Vector.replicate 8 Standby.empty }
    else t
  | none => t

/-- Every live table's content agrees with its stored CRC (R126). -/
def Bank.intact (b : Bank) : Bool := TableId.all.all fun t => b.tables.crc t == b.crcs[t.index]

/-- The live set checked, when it is valid (R126). -/
def TableStore.checkLive (t : TableStore) : TableStore := { t with valid := t.valid && (t.bank t.live).intact }

/-- Phase 1 ends, phase 2 passes, and the replay of phase 3 begins (R126, R141, R143, R144, R193). -/
def State.recovered (s : State) : State :=
  let j := s.journal.recover
  { s with
    journal := { j with writer := .replaying }, tables := (s.tables.completeFlip j.newestCommit).checkLive, loans := [],
    phase := .replay }

/-- The list and the live tables once the records above the basis are replayed (R137, R138, R141, R142); the table effects only while
the live set is valid (R126). -/
def State.replayed (s : State) : State :=
  let rs := s.journal.recordsAbove s.tables.basis
  { s with
    loans := replayLoans rs [], tables := if s.tables.valid then s.tables.rewriteLive (replayTables rs) else s.tables,
    journal := { s.journal with writer := .idle } }

/-- A replay ends (R115, R141): a commit's is DONE; start-up's goes on to its RESTART request and the enabling of the stations
(R146, R193). -/
def State.endReplay (s : State) : State :=
  if s.life == .on && s.journal.writer == .replaying then
    let r := s.replayed
    let done := if r.tables.commit.state = .replaying then
        { r with tables := { r.tables with commit := { r.tables.commit with state := .done } } }
      else r
    if s.phase = .replay then ({ done with phase := .started } : State).ask .restart else done
  else s

end Sys2Proof.Machine
end

