-- ==== Sys2Proof/Machine/Turns.lean ====
section
/-! DEFINITION. Journal turns and write completions: what the writer gives the head request (R133 to R136), the records of the requesters that are not the Decision Engine (R45, R80, R114, R119, R128), and everything a completion brings (R136). -/

namespace Sys2Proof.Machine

open Config

/-! ### Records formed at a turn -/

/-- The SESSION_CLOSE record of a station (R45, Table 16), at the close time (R128). -/
def State.closeRecord (s : State) (i : Station) : JournalRecord :=
  let x := s.sessions[i]
  { s.recordBase .sessionClose i.val with
    day := x.closeTime.day, minute := x.closeTime.minute, flags := { undated := x.closeTime.day == undated, guest := x.guest },
    card := x.card, aux0 := x.granted.length, aux1 := x.slipOutcome.code }

/-- The TABLE_COMMIT record (R114). -/
def State.commitRecord (s : State) : JournalRecord :=
  { s.recordBase .tableCommit 15 with
    card := s.tables.basis, item := s.tables.commit.basis, aux0 := s.tables.live.other.code }

/-- The RESTART record (R128, Table 16, log 23). -/
def State.restartRecord (s : State) : JournalRecord :=
  { s.recordBase .restart 15 with
    card := s.tables.basis, item := s.journal.released, aux0 := s.startCause.code,
    aux1 := flagBit s.journal.tornMark 0 + flagBit s.journal.erasedAgainMark 1, aux2 := flagBit s.tables.valid 0 }

/-- The last minute of the day range, counted from day 0 minute 0 (R80). -/
def lastMinuteCount : Nat := lastDay * 1440 + 1439

/-- The new day and minute of a Clock Adjust, and whether it was held to the range (R80). -/
def adjustedTime (day minute : Nat) (by_ : Int) : Nat × Nat × Bool :=
  let sum : Int := (day * 1440 + minute : Nat) + by_
  let held := min lastMinuteCount sum.toNat
  (held / 1440, held % 1440, decide (sum < 0 ∨ (lastMinuteCount : Int) < sum))

/-- The CLOCK_SET record of a request that is not abandoned, and the request in WRITING (R80). -/
def State.clockTurn (s : State) (op : ClockOp) : JournalRecord × ClockRequest :=
  let base := { s.recordBase .clockSet 15 with card := s.clock.day, item := s.clock.minute }
  match op with
  | .set day minute =>
    ({ base with dueDay := day, dueMinute := minute }, { op := op, phase := .writing day minute 0 0 })
  | .adjust minutes =>
    let t := adjustedTime s.clock.day s.clock.minute minutes
    ({ base with dueDay := t.1, dueMinute := t.2.1, aux0 := 1, aux1 := twosOf 8 minutes,
                 flags := { base.flags with dateSaturated := t.2.2 } },
     { op := op, phase := .writing t.1 t.2.1 s.clock.second 0 })

/-- The writer enters WRITING with a record (R136). -/
def State.write (s : State) (r : JournalRecord) (owner : Requester) : State :=
  { s with journal := { s.journal with writer := .writing r owner } }

/-- The clock's request is served (R80): its record written, or the request abandoned when an adjustment meets a clear set flag. -/
def State.serveClock (s : State) : State :=
  match s.clock.request with
  | none => s
  | some q =>
    match q.op, s.clock.isSet with
    | .adjust _, false => { s with clock := { s.clock with request := none } }
    | op, _ =>
      let t := s.clockTurn op
      State.write { s with clock := { s.clock with request := some t.2 } } t.1 .clock

/-- The Decision Engine's turn (R48): it evaluates; a record at a recorded turn is written, and otherwise the effects apply here. -/
def State.serveEngine (s : State) (recorded : Bool) : State :=
  match s.engine.decision with
  | none => s
  | some d =>
    let v := s.evaluate d recorded
    match v.record with
    | some r => State.write { s with engine := { s.engine with phase := .writing, verdict := some v } } r .engine
    | none => s.applyVerdict d v 0

/-- A recorded turn given to a requester (R136). -/
def State.serveRecorded (s : State) : Requester → State
  | .engine => s.serveEngine true
  | .patch =>
    match s.tables.patch with
    | some p => s.write (p.record (s.recordBase .tablePatch 15)) .patch
    | none => s
  | .commit => s.write s.commitRecord .commit
  | .clock => s.serveClock
  | .close i => s.write (s.closeRecord i) (.close i)
  | .restart => s.write s.restartRecord .restart

/-! ### The turn (R133 to R135) -/

/-- The class of a request (R29, R134): loan-class only for the Decision Engine's when its scan was classed so. -/
def State.classOf (s : State) : Requester → RequestClass
  | .engine => (s.engine.decision.map (·.requestClass)).getD .returnClass
  | _ => .returnClass

/-- What the writer gives the head request (R134, R135). -/
inductive TurnKind
  | recorded
  | unrecorded
  | waits
  deriving DecidableEq, Repr

/-- The turn a request at the head is given (R129, R134, R135). -/
def Journal.turnFor (j : Journal) (cls : RequestClass) : TurnKind :=
  match cls with
  | .loanClass =>
    if j.free ≤ loanReserve || j.exhausted then .unrecorded else if j.headWritable then .recorded else .waits
  | .returnClass =>
    if j.free = 0 || j.exhausted then .waits else if j.headWritable then .recorded else .waits

/-- The head request leaves the order. -/
def State.popRequest (s : State) : State :=
  { s with journal := { s.journal with requests := s.journal.requests.tail } }

/-- The writer considers the head of the request order (R133 to R136). -/
def State.turn (s : State) : State :=
  if s.life == .on && s.journal.writer == .idle then
    match s.journal.requests with
    | [] => s
    | r :: _ =>
      match s.journal.turnFor (s.classOf r) with
      | .recorded => s.popRequest.serveRecorded r
      | .unrecorded => s.popRequest.serveEngine false
      | .waits => s
  else s

/-! ### Write completion (R136) -/

/-- The flip (R114): the former standby bank is live with its stored CRCs, the basis is the record's S, the live set is valid, every
table of the new standby bank is EMPTY, and the commit and the writer replay. -/
def State.flip (s : State) (r : JournalRecord) : State :=
  let t := s.tables
  { s with
    tables :=
      TableStore.setBank
        { t with live := t.live.other, basis := r.item, valid := true, standby := Vector.replicate 8 Standby.empty,
                 commit := { t.commit with state := .replaying } }
        t.live Bank.empty,
    journal := { s.journal with writer := .replaying }, loans := [] }

/-- The clock takes the new time, set and COUNTING, and then the edges counted since the turn (R80). -/
def State.setClock (s : State) : State :=
  match s.clock.request with
  | some { phase := .writing day minute second edges, .. } =>
    let new := { s.clock with day := day, minute := minute, second := second, isSet := true, halted := false, request := none }
    { s with clock := Clock.advanceBy edges new }
  | _ => s

/-- The close of a session ends (R45). -/
def Session.closed (x : Session) : Session :=
  { x with state := .idle, card := 0, guest := false, granted := [], closePending := false, slipOutcome := .none }

/-- The requester's own effects at a write completion (R136). -/
def State.ownerEffects (s : State) (r : JournalRecord) : Requester → State
  | .engine =>
    match s.engine.decision, s.engine.verdict with
    | some d, some v => s.applyVerdict d v r.sequence
    | _, _ => s
  | .patch => { s with tables := { s.tables with patch := none } }
  | .commit => s.flip r
  | .clock => s.setClock
  | .close i => (s.onSession i Session.closed).discardScans i
  | .restart => s

/-- The record readable and counted, and its effects on the list and the live tables applied (R136 to R138). -/
def State.recordEffects (s : State) (r : JournalRecord) : State :=
  { s with
    journal := { s.journal.complete r with writer := .idle }, loans := applyToLoans r s.loans,
    tables := s.tables.rewriteLive (applyToTables r) }

/-- The write of a record completes (R136). -/
def State.completeWrite (s : State) : State :=
  match s.running, s.journal.writer with
  | true, .writing r owner => (s.recordEffects r).ownerEffects r owner
  | _, _ => s

end Sys2Proof.Machine
end

