-- ==== Sys2Proof/Machine/JournalEvents.lean ====
section
/-! DEFINITION. The journal family: turns, write completions, the end of a replay, and erases (R133 to R142). -/

namespace Sys2Proof.Machine

/-- JOURNAL_TURN (R133 to R136). -/
def execJournalTurn (s : State) : Host.Outcome State Fault Refusal := finish s s.turn

/-- RECORD_WRITE_COMPLETION (R136). -/
def execRecordWriteCompletion (s : State) : Host.Outcome State Fault Refusal := finishStore s s.completeWrite

/-- REPLAY_END (R115, R141). -/
def execReplayEnd (s : State) : Host.Outcome State Fault Refusal := finish s s.endReplay

/-- ERASE_START (R140). No erase begins in phase 1, or once the part waits for a reset or a Restart (log 8). -/
def execEraseStart (s : State) : Host.Outcome State Fault Refusal :=
  finish s (if s.life == .on && s.phase != .recovery then { s with journal := s.journal.startErase } else s)

/-- A page's erase completes: one of the erase queue (R140), or in phase 1 the one that recovery redoes (R143, log 8). -/
def State.eraseDone (s : State) : State :=
  { s with journal := if s.phase = .recovery then s.journal.endReErase else s.journal.endErase }

/-- ERASE_COMPLETE (R140, R143, R145). -/
def execEraseComplete (s : State) : Host.Outcome State Fault Refusal := finishStore s (if s.running then s.eraseDone else s)

end Sys2Proof.Machine
end

