-- ==== Sys2Proof/Machine/Answers.lean ====
section
/-! DEFINITION. What each request of Table 14 does and is answered, by the rule that owns it (R26, R79, R105 to R118, R122, R123, R147 to R151, R167 to R170, R178 to R184, R186, R189). -/

namespace Sys2Proof.Machine

open Config

/-- The answer to a request: its status, the result fields after the status byte (Table 14), and the state after. -/
structure Answer where
  status : Status
  fields : List Byte
  state : State
  deriving DecidableEq, Repr

/-- A request answered with a status alone, nothing changed. -/
def State.deny (s : State) (st : Status) : Answer := { status := st, fields := [], state := s }

/-- A request answered OK with no result. -/
def State.done (s : State) : Answer := { status := .ok, fields := [], state := s }

/-! ### Status Read (R152, R180, R193, Table 19) -/

/-- The start-up phase byte (R193). -/
def Phase.code : Phase → Nat
  | .recovery => 1 | .replay => 3 | .started => 0

/-- The unrecorded-refusal counter as section 0 shows it: a journal figure of Status, 0 during phase 1 (R152). -/
def State.shownUnrecorded (s : State) : Nat := if s.phase = .recovery then 0 else s.engine.unrecorded

/-- Section 0, desk. -/
def State.deskSection (s : State) : List Byte :=
  [byte ((s.heldCause.map Cause.code).getD 0xFF), byte s.phase.code, byte s.link.access] ++ beBytes 4 s.activeMask
    ++ beBytes 2 s.link.errors ++ beBytes 2 s.shownUnrecorded ++ beBytes 2 s.clock.day ++ beBytes 2 s.clock.minute
    ++ [byte s.clock.second, byte (flagBit s.clock.isSet 0 + flagBit s.clock.halted 1 + flagBit s.clock.request.isSome 2)]

/-- One station's 28 bytes of section 1. -/
def State.stationSection (s : State) (i : Station) : List Byte :=
  let ch := s.channels[i]
  let x := s.sessions[i]
  let last := match s.engine.last[i] with
    | some r => [byte r.kind.code, byte ((r.reason.map Reason.code).getD 0)] ++ beBytes 6 r.ident ++ beBytes 4 r.sequence
    | none => [0, 0] ++ beBytes 6 0 ++ beBytes 4 0
  [byte s.config.stations[i].mode.code, byte (s.mode i).code, byte (SelectorLevel.code s.levels.selector[i]), byte x.state.code] ++ beBytes 6 x.card
    ++ [markByte x.window.isSome, byte ch.fifo.length, markByte ch.hold, byte ch.queue.length, byte ch.errors, markByte ch.overrun]
    ++ last

/-- One place of the slip queue: the kind in the upper 4 bits, the station in the lower 4 (Table 15). A place without a slip has the kind 0,
and its station bits are a free value (log 42). -/
def slipPlace (draw place : Nat) (s : Option Slip) : Byte :=
  match s with
  | some slip => byte ((match slip.body with | .loan _ => 1 | .hold _ _ => 2) * 16 + slip.station.val)
  | none => byte (emptyPlaceStation draw place).toNat

/-- The four places of the slip queue, from its head (Table 19). -/
def State.slipPlaces (s : State) : List Byte := (List.range 4).map fun k => slipPlace s.draws k s.slips.queue[k]?

/-- Section 1, stations and printer. -/
def State.stationsSection (s : State) : List Byte :=
  s.stationSection 0 ++ s.stationSection 1 ++ s.stationSection 2 ++ s.stationSection 3
    ++ [byte s.slips.queue.length] ++ s.slipPlaces ++ [byte s.slips.port.code]
    ++ beBytes 2 s.slips.position ++ [markByte s.ready, markByte s.levels.paperOut, markByte s.slips.lastPrinted.isSome]

/-- One standby table's 10 bytes of section 2. The figures that a table's state does not have are free values (log 24). -/
def TableStore.standbySection (t : TableStore) (draw : Nat) (n : TableId) : List Byte :=
  let k := n.index.val
  let b := t.standbyOf n
  let counts := match t.load with
    | some l => if l.table = n then some (l.count, l.pointer) else none
    | none => none
  [byte b.state.code] ++ beBytes 2 ((counts.map (·.1)).getD (absentCount draw k).toNat) ++ beBytes 2 ((counts.map (·.2)).getD (absentPointer draw k).toNat)
    ++ beBytes 4 (b.copyPoint.getD (absentCopyPoint draw k).toNat) ++ [byte ((b.failure.map Status.code).getD 0)]

/-- Section 2, tables. -/
def State.tablesSection (s : State) : List Byte :=
  let t := s.tables
  [byte t.live.code, markByte t.valid] ++ beBytes 4 t.basis ++ [byte t.commit.state.code] ++ beBytes 4 t.commit.basis
    ++ [byte ((t.commit.failure.map fun f => f.1.index.val).getD 0xFF), byte ((t.commit.failure.map fun f => f.2.code).getD 0),
        markByte t.patch.isSome]
    ++ beBytes 2 s.loans.length ++ (TableId.all.flatMap (t.standbySection s.draws)) ++ t.protection.bytes

/-- The page states, two pages a byte, the lower page in the upper 4 bits. -/
def Journal.pageBytes (j : Journal) : List Byte :=
  (List.range 64).map fun k => byte ((j.page (2 * k)).code * 16 + (j.page (2 * k + 1)).code)

/-- The next sequence as section 3 shows it: a free value once it does not fit its field (log 25). -/
def Journal.shownNext (j : Journal) (draw : Nat) : Nat :=
  if j.exhausted then (exhaustedNextSequence draw).toNat else j.nextSequence

/-- Section 3, journal: 0 in every field during phase 1 (R152). -/
def State.journalSection (s : State) : List Byte :=
  if s.phase = .recovery then List.replicate 91 0
  else
    let j := s.journal
    beBytes 4 j.released ++ beBytes 4 s.tables.basis ++ beBytes 4 j.lastComplete ++ beBytes 4 (j.shownNext s.draws) ++ beBytes 2 j.used
      ++ beBytes 2 j.free ++ beBytes 2 j.headSlot
      ++ [byte j.tailPage, byte j.eraseQueue.length, byte (j.eraseMarker.getD 0xFF), byte j.requests.length,
          byte (flagBit j.tornMark 0 + flagBit j.erasedAgainMark 1)]
      ++ j.pageBytes

/-- The state after an answered Status Read: the next draw, and with the clear mark the held reset cause cleared (R180, R192). -/
def State.afterRead (s : State) (clear : Byte) : State :=
  { s with draws := s.draws + 1, heldCause := if clear = 1 then none else s.heldCause }

/-- Status Read (R180): the section's content, and with the clear mark the held reset cause cleared after it is reported. A section above 3 is
answered RANGE, and its clear mark does nothing (log 14). -/
def State.statusRead (s : State) (sect clear : Byte) : Answer :=
  let read := fun content : List Byte =>
    ({ status := .ok, fields := sect :: content, state := s.afterRead clear } : Answer)
  match sect.toNat with
  | 0 => read s.deskSection
  | 1 => read s.stationsSection
  | 2 => read s.tablesSection
  | 3 => read s.journalSection
  | _ => s.deny .range

/-! ### Access (R178, R179) -/

/-- The level a code reaches (R178). -/
def Link.levelFor (l : Link) (code : BitVec 32) : Nat := if code = l.code2 then 2 else if code = l.code1 then 1 else 0

def State.answerAccess (s : State) (code : BitVec 32) : Answer :=
  { status := .ok, fields := [byte (s.link.levelFor code)], state := { s with link := { s.link with access := s.link.levelFor code } } }

def State.answerLeave (s : State) : Answer := State.done { s with link := { s.link with access := 0 } }

def State.answerSetCodes (s : State) (code1 code2 : BitVec 32) : Answer :=
  State.done { s with link := { s.link with code1 := code1, code2 := code2 } }

def State.answerSetCodesEmpty (s : State) : Answer := { status := .ok, fields := List.replicate 8 0, state := s }

/-! ### Clock (R79) -/

/-- An accepted clock request becomes pending, and its turn is asked for. -/
def State.acceptClock (s : State) (op : ClockOp) : Answer :=
  State.done (State.ask { s with clock := { s.clock with request := some { op := op, phase := .awaitingTurn } } } .clock)

def State.answerClockSet (s : State) (day minute : Nat) : Answer :=
  if s.clock.request.isSome then s.deny .busy
  else if lastDay < day ∨ 1439 < minute then s.deny .range
  else s.acceptClock (.set day minute)

def State.answerClockAdjust (s : State) (minutes : Int) : Answer :=
  if s.clock.request.isSome then s.deny .busy
  else if minutes < -15 ∨ 15 < minutes then s.deny .range
  else if !s.clock.isSet then s.deny .state
  else s.acceptClock (.adjust minutes)

/-! ### Station Control (R26) -/

/-- The station a byte names. -/
def stationOf (b : Nat) : Option Station := if h : b < 4 then some ⟨b, h⟩ else none

def State.answerStationControl (s : State) (station action mode : Byte) : Answer :=
  match stationOf station.toNat with
  | none => s.deny .range
  | some i =>
    match action.toNat with
    | 0 =>
      match Mode.ofCode mode.toNat with
      | some m => (s.setMode i m).done
      | none => s.deny .range
    | 1 => if s.sessions[i].state = .open_ then (s.closeFromOutside i).done else s.deny .state
    | _ => s.deny .range

/-! ### Configuration (R184) -/

def State.answerConfigure (s : State) (record : List Byte) : Answer :=
  if s.configStore.isSome then s.deny .busy
  else
    match ConfigRecord.ofBytes record with
    | some c => State.done { s with configStore := some c }
    | none => s.deny .range

def State.answerConfigureRead (s : State) : Answer := { status := .ok, fields := s.config.bytes, state := s }

/-! ### Loading tables (R105 to R108, R186) -/

def State.answerBeginTable (s : State) (table count : Nat) : Answer :=
  match TableId.ofNumber table with
  | none => s.deny .range
  | some t =>
    if s.tables.committing then s.deny .busy
    else if (s.tables.standbyOf t).state = .copying then s.deny .busy
    else if s.tables.protection.loadMask.getLsbD t.index.val then s.deny .protected_
    else if s.tables.filling then s.deny .state
    else if !countAllowed t count then s.deny .range
    else
      let b := s.tables.standbyBank
      let tables := (s.tables.setBank s.tables.live.other { b with tables := b.tables.discard t }).setStandby t
        { state := .loading, copyPoint := none, failure := none }
      State.done
        { s with tables := { tables with load := some { table := t, count := count, pointer := 0, crc := crcInit, previousKey := none } } }

/-- The checks of R106 on one entry, in order: count, fields, key. -/
def checkEntry (c : LoadContext) (bytes : List Byte) : Except Status Entry :=
  if c.count ≤ c.pointer then .error .range
  else
    match decodeEntry c.table (c.pointer == 0) bytes with
    | none => .error .range
    | some e =>
      match e.key, c.previousKey with
      | some k, some p => if k ≤ p then .error .order else .ok e
      | _, _ => .ok e

/-- The load context after an entry (R106). -/
def LoadContext.next (c : LoadContext) (e : Entry) : LoadContext :=
  { c with pointer := c.pointer + 1, crc := crcOver c.crc e.bytes, previousKey := match e.key with | some k => some k | none => c.previousKey }

/-- The entries of a frame taken in order until one fails (R106): the context and tables after the entries written, and the status of
the failing check. -/
def loadEntries : Nat → LoadContext → TableSet → List Byte → LoadContext × TableSet × Option Status
  | 0, c, t, _ => (c, t, none)
  | n + 1, c, t, bytes =>
    let size := entrySize c.table (c.pointer == 0)
    match checkEntry c (bytes.take size) with
    | .error st => (c, t, some st)
    | .ok e => loadEntries n (c.next e) (t.append e) (bytes.drop size)

/-- The length of a Load Entries payload fits (R106, R186); a table above 7 fits any. -/
def State.loadFits (s : State) (table count : Nat) (entries : List Byte) : Bool :=
  match TableId.ofNumber table with
  | none => true
  | some .calendar =>
    let asHeader := entries.length == 32 + 2 * (count - 1)
    let asDays := entries.length == 2 * count
    decide (1 ≤ count ∧ count ≤ 8) &&
      (match s.tables.load with
        | some l => if l.table = .calendar then (if l.pointer = 0 then asHeader else asDays) else asHeader || asDays
        | none => asHeader || asDays)
  | some t => decide (1 ≤ count ∧ count ≤ 8) && entries.length == count * entrySize t false

/-- The load context of a table that is LOADING. -/
def TableStore.loading (t : TableStore) (n : TableId) : Option LoadContext :=
  match t.load with
  | some c => if c.table = n then some c else none
  | none => none

/-- A table being loaded becomes FAILED with a code (R104, R106, R107). -/
def TableStore.failLoad (t : TableStore) (n : TableId) (st : Status) : TableStore :=
  { t.setStandby n { state := .failed, copyPoint := none, failure := some st } with load := none }

/-- Load Entries (R106). A table above 7 is answered RANGE by the status alone, as no entry fails (log 43). -/
def State.answerLoadEntries (s : State) (table count : Nat) (entries : List Byte) : Answer :=
  match TableId.ofNumber table with
  | none => s.deny .range
  | some t =>
    if s.tables.committing || (s.tables.standbyOf t).state == .copying then s.deny .busy
    else
      match s.tables.loading t with
      | none => s.deny .state
      | some c =>
        let b := s.tables.standbyBank
        let r := loadEntries count c b.tables entries
        let stored := s.tables.setBank s.tables.live.other { b with tables := r.2.1 }
        match r.2.2 with
        | none => { status := .ok, fields := beBytes 2 r.1.pointer, state := { s with tables := { stored with load := some r.1 } } }
        | some st => { status := st, fields := beBytes 2 r.1.pointer, state := { s with tables := stored.failLoad t st } }

def State.answerEndTable (s : State) (table crc : Nat) : Answer :=
  match TableId.ofNumber table with
  | none => s.deny .range
  | some t =>
    if s.tables.committing || (s.tables.standbyOf t).state == .copying then s.deny .busy
    else
      match s.tables.loading t with
      | none => s.deny .state
      | some c =>
        if c.pointer ≠ c.count ∨ crc ≠ c.crc then
          { status := .format, fields := [], state := { s with tables := s.tables.failLoad t .format } }
        else
          let b := s.tables.standbyBank
          let stored := s.tables.setBank s.tables.live.other { b with crcs := b.crcs.set t.index crc }
          State.done
            { s with tables := { stored.setStandby t { state := .complete, copyPoint := none, failure := none } with load := none } }

def State.answerAbortLoad (s : State) (table : Nat) : Answer :=
  match TableId.ofNumber table with
  | none => s.deny .range
  | some t =>
    if s.tables.committing || (s.tables.standbyOf t).state == .copying then s.deny .busy
    else
      let b := s.tables.standbyBank
      let stored := s.tables.setBank s.tables.live.other { b with tables := b.tables.discard t }
      State.done
        { s with
          tables := { stored.setStandby t Standby.empty with load := if (s.tables.loading t).isSome then none else s.tables.load } }

/-! ### Copy and commit (R109, R111) -/

def State.answerCopyTable (s : State) (table : Nat) : Answer :=
  match TableId.ofNumber table with
  | none => s.deny .range
  | some t =>
    if s.tables.committing || (s.tables.standbyOf t).state == .copying || s.tables.patch.isSome then s.deny .busy
    else if !s.tables.valid || s.tables.filling then s.deny .state
    else
      let b := s.tables.standbyBank
      let live := s.tables.bank s.tables.live
      let stored := (s.tables.setBank s.tables.live.other { b with tables := b.tables.discard t }).setStandby t
        { state := .copying, copyPoint := some s.journal.lastComplete, failure := none }
      { status := .ok, fields := beBytes 4 s.journal.lastComplete,
        state := { s with tables := { stored with copy := some { table := t, source := live.tables, crc := live.crcs[t.index] } } } }

/-- The standby Borrower or Item Exception table was copied at a point below S (R111). -/
def TableStore.copiedBelow (t : TableStore) (basis : Nat) : Bool :=
  [TableId.borrower, TableId.itemException].any fun n => (t.standbyOf n).copyPoint.any fun p => decide (p < basis)

def State.answerCommitSet (s : State) (basis : Nat) : Answer :=
  let t := s.tables
  if t.committing || (t.standby.toList.any fun b => b.state == .copying) || t.patch.isSome then s.deny .busy
  else if !(t.standby.toList.all fun b => b.state == .complete) then s.deny .state
  else if basis < t.basis then s.deny .staleBasis
  else if s.journal.lastComplete < basis then s.deny .futureBasis
  else if t.copiedBelow basis then s.deny .futureBasis
  else
    State.done
      { s with tables := { t with commit := { state := .validating, basis := basis, validated := false, failure := none } } }

/-! ### Patches (R116 to R118, Table 16) -/

/-- The borrower patch a request carries, none when it is answered RANGE (R118). -/
def borrowerPatch (operation card : Nat) (operand : List Byte) : Option BorrowerOp :=
  if !isIdentity card then none
  else
    match operation with
    | 0 => if byteAt operand 0 < 8 then some (.setFlags (BorrowerFlags.ofCode (byteAt operand 0))) else none
    | 1 => if byteAt operand 0 < 8 then some (.clearFlags (BorrowerFlags.ofCode (byteAt operand 0))) else none
    | 2 => some (.setFines (beField operand 0 2))
    | 3 => if beField operand 0 2 ≤ lastDay then some (.setExpiry (beField operand 0 2)) else none
    | 4 =>
      match decodeEntry .borrower false operand with
      | some (.borrower e) => if e.card = card then some (.insert e) else none
      | _ => none
    | 5 => some .delete
    | _ => none

/-- The hold expiry a SET_STATE operand carries: 0 where none applies (R185); in HOLD_ON_SHELF, which needs one, 0 is day 0 (log 17). -/
def operandExpiry (st : ExceptionState) (day : Nat) : Option Nat := if day = 0 ∧ st ≠ .holdOnShelf then none else some day

/-- The item patch a request carries, none when it is answered RANGE (R117, R118). -/
def itemPatch (operation item : Nat) (operand : List Byte) : Option ItemOp :=
  if !isIdentity item then none
  else
    match operation with
    | 0 =>
      match decodeEntry .itemException false operand with
      | some (.exception e) => if e.item = item ∧ presenceRule e.state e.holdCard e.holdExpiry then some (.insert e) else none
      | _ => none
    | 1 => some .delete
    | 2 =>
      match ExceptionState.ofCode (byteAt operand 0) with
      | some st =>
        let card := beField operand 1 6
        let expiry := operandExpiry st (beField operand 7 2)
        if card ≤ maxIdentity ∧ (expiry.all fun d => decide (d ≤ lastDay)) ∧ presenceRule st card expiry then
          some (.setState st card expiry)
        else none
      | none => none
    | _ => none

/-- The patch mask bit that names an operation (R121, Table 15). -/
def Patch.maskBit : Patch → Nat
  | .borrower _ (.setFlags _) | .borrower _ (.clearFlags _) => 0
  | .borrower _ (.setFines _) => 1
  | .borrower _ (.setExpiry _) => 2
  | .borrower _ (.insert _) | .borrower _ .delete => 3
  | .item _ _ => 4

/-- The protected card range names a card (R121). -/
def Protection.guards (p : Protection) (card : Nat) : Bool :=
  if p.low = 0 ∧ p.high = 0 then false
  else if p.complement then decide (card < p.low ∨ p.high < card)
  else decide (p.low ≤ card ∧ card ≤ p.high)

/-- A patch is protected by its operation or by its card (R118, R121). -/
def Protection.forbids (p : Protection) (patch : Patch) : Bool :=
  p.patchMask.getLsbD patch.maskBit || (match patch with | .borrower card _ => p.guards card | .item _ _ => false)

/-- An INSERT that names a key absent from a live table that holds its largest count (R118). -/
def TableSet.fullFor (t : TableSet) : Patch → Bool
  | .borrower card (.insert _) => (t.borrower? card).isNone && decide (maxCount .borrower ≤ t.borrowers.length)
  | .item key (.insert _) => (t.exception? key).isNone && decide (maxCount .itemException ≤ t.exceptions.length)
  | _ => false

/-- The checks of R118 in order, for a patch of a table; `patch` is none when it is answered RANGE. -/
def State.answerPatch (s : State) (table : TableId) (patch : Option Patch) : Answer :=
  if s.tables.committing || (s.tables.standbyOf table).state == .copying || s.tables.patch.isSome then s.deny .busy
  else if !s.tables.valid then s.deny .state
  else
    match patch with
    | none => s.deny .range
    | some p =>
      if s.tables.protection.forbids p then s.deny .protected_
      else if s.tables.liveTables.fullFor p then s.deny .full
      else State.done (State.ask { s with tables := { s.tables with patch := some p } } .patch)

/-! ### Read Entry (R123, R181) -/

/-- A live entry by index. All 6 key bytes are the index, so that one whose first 4 bytes are not 0 is answered RANGE (log 44). -/
def State.readIndexed (s : State) (t : TableId) (index : Nat) : Answer :=
  match (s.tables.liveTables.entries t)[index]? with
  | some e => { status := .ok, fields := 1 :: e.bytes, state := s }
  | none => s.deny .range

/-- A live entry by key. -/
def State.readKeyed (s : State) (e : Option (List Byte)) : Answer :=
  match e with
  | some bytes => { status := .ok, fields := 1 :: bytes, state := s }
  | none => { status := .ok, fields := [0], state := s }

def State.answerReadLive (s : State) (table key : Nat) : Answer :=
  let t := s.tables.liveTables
  if s.tables.commit.state = .replaying then s.deny .busy
  else if !s.tables.valid then s.deny .state
  else
    match TableId.ofNumber table with
    | none => s.deny .range
    | some .borrower => s.readKeyed ((t.borrower? key).map fun b => (Entry.borrower b).bytes)
    | some .itemException => s.readKeyed ((t.exception? key).map fun e => (Entry.exception e).bytes)
    | some .staff => s.readKeyed ((t.staff? key).map fun e => (Entry.staff e.2).bytes ++ [byte e.1])
    | some n => s.readIndexed n key

def State.answerReadLoan (s : State) (item : Nat) : Answer :=
  if s.journal.writer = .replaying then s.deny .busy else s.readKeyed ((findLoan s.loans item).map LoanEntry.bytes)

def State.answerReadEntry (s : State) (source table key : Nat) : Answer :=
  match source with
  | 0 => s.answerReadLive table key
  | 1 => s.answerReadLoan key
  | _ => s.deny .range

/-! ### Journal (R147 to R151) -/

def State.answerJournalRead (s : State) (start : Nat) : Answer :=
  let rs := s.journal.readRecords start
  { status := .ok,
    fields := [byte rs.length] ++ beBytes 4 (s.journal.readStart start) ++ beBytes 4 s.journal.lastComplete ++ rs.flatMap JournalRecord.bytes,
    state := s }

/-- The effective release (R149). -/
def State.effectiveRelease (s : State) (through : Nat) : Nat := min through (min s.tables.basis s.journal.lastComplete)

def State.answerJournalRelease (s : State) (through : Nat) : Answer :=
  let r := s.effectiveRelease through
  let j := s.journal.releaseThrough r
  { status := .ok, fields := beBytes 4 r ++ beBytes 4 j.released ++ [markByte (decide (r < through))], state := { s with journal := j } }

/-! ### Printer Control (R167 to R170) -/

def State.answerPrinter (s : State) (action : Nat) : Answer :=
  match action with
  | 0 => State.done { s with slips := s.slips.stop }
  | 1 => if s.resumePrinter.1 then s.resumePrinter.2.done else s.deny .state
  | 2 => State.done { s with slips := s.slips.abort }
  | 3 => { status := s.reprint.1, fields := [], state := s.reprint.2 }
  | _ => s.deny .range

/-! ### Conditions, protection (R122, R189) -/

def State.answerClear (s : State) (mask : BitVec 32) : Answer :=
  if mask &&& 0x7FFC0000 ≠ 0 then s.deny .range else (s.clearConditions mask).done

/-- Set Protection is obeyed (R122). -/
def State.protectionOpen (s : State) : Bool :=
  match s.tables.protection.lock with
  | .opened => true
  | .lineGuarded => s.levels.maintenance
  | .powerLocked | .fixed => false

/-- The settings a Set Protection carries, none when it is answered RANGE (R122): a low bound above the high one, only one bound 0, or no lock
mode. Of the patch mask the five marks of R121 are stored, the bounds as they are carried, and a complement byte of 1 as the set flag
(log 15). -/
def protectionOf (patchMask loadMask : Byte) (low high complement lock : Nat) : Option Protection :=
  match LockMode.ofCode lock with
  | some m =>
    if low ≤ high ∧ (low = 0 ↔ high = 0) then
      some { patchMask := patchMask &&& 0x1F, loadMask := loadMask, low := low, high := high, complement := complement == 1, lock := m }
    else none
  | none => none

def State.answerSetProtection (s : State) (settings : Option Protection) : Answer :=
  if !s.protectionOpen then s.deny .protected_
  else
    match settings with
    | some p => State.done { s with tables := { s.tables with protection := p } }
    | none => s.deny .range

/-- A Restart is answered OK, and the receiver takes no further frame (R182). -/
def State.answerRestart (s : State) : Answer := State.done { s with link := { s.link with shut := true } }

/-! ### Every request -/

/-- The payload of a request fits it (R175, R184, R186). -/
def State.fits (s : State) : Request → Bool
  | .configure record => record.length == 162
  | .loadEntries table count entries => s.loadFits table.toNat count.toNat entries
  | .patchBorrower op _ operand => (borrowerOperandLength op.toNat).all (· == operand.length)
  | .patchItem op _ operand => (itemOperandLength op.toNat).all (· == operand.length)
  | _ => true

/-- The owning chapter's checks and action (R175). -/
def State.serve (s : State) : Request → Answer
  | .statusRead sect clear => s.statusRead sect clear
  | .access code => s.answerAccess code
  | .leave => s.answerLeave
  | .clockSet day minute => s.answerClockSet day.toNat minute.toNat
  | .clockAdjust minutes => s.answerClockAdjust (signedOf 8 minutes.toNat)
  | .stationControl station action mode => s.answerStationControl station action mode
  | .configure record => s.answerConfigure record
  | .configureRead => s.answerConfigureRead
  | .beginTable table count => s.answerBeginTable table.toNat count.toNat
  | .loadEntries table count entries => s.answerLoadEntries table.toNat count.toNat entries
  | .endTable table crc => s.answerEndTable table.toNat crc.toNat
  | .abortLoad table => s.answerAbortLoad table.toNat
  | .copyTable table => s.answerCopyTable table.toNat
  | .commitSet basis => s.answerCommitSet basis.toNat
  | .patchBorrower op card operand =>
    s.answerPatch .borrower ((borrowerPatch op.toNat card.toNat operand).map (Patch.borrower card.toNat))
  | .patchItem op item operand =>
    s.answerPatch .itemException ((itemPatch op.toNat item.toNat operand).map (Patch.item item.toNat))
  | .readEntry source table key => s.answerReadEntry source.toNat table.toNat key.toNat
  | .journalRead start => s.answerJournalRead start.toNat
  | .journalRelease through => s.answerJournalRelease through.toNat
  | .printerControl action => s.answerPrinter action.toNat
  | .clearConditions mask => s.answerClear mask
  | .setProtection patchMask loadMask low high complement lock =>
    s.answerSetProtection (protectionOf patchMask loadMask low.toNat high.toNat complement.toNat lock.toNat)
  | .setCodes code1 code2 => s.answerSetCodes code1 code2
  | .setCodesEmpty => s.answerSetCodesEmpty
  | .restart => s.answerRestart

end Sys2Proof.Machine
end

