-- ==== Sys2Proof/Machine/Link.lean ====
section
/-! DEFINITION. The service link: the frame receiver (R173), the taking of a frame and its response (R175, R176), the link rate (R172), and the transmitter (R176, R177, R182). -/

namespace Sys2Proof.Machine

open Config

/-! ### Frames (Table 13) -/

/-- The length, type and payload bytes of a frame, which its CRC covers. -/
def frameBody (type : Nat) (payload : List Byte) : List Byte := byte payload.length :: byte type :: payload

/-- The bytes of a frame (Table 13). -/
def frameBytes (type : Nat) (payload : List Byte) : List Byte :=
  [0xA5] ++ frameBody type payload ++ beBytes 2 (crc16 (frameBody type payload))

/-! ### The link error count (R173) -/

/-- The link error count gains 1, held at 65535; the step that brings it to 8 latches LINK_ERRORS (R173). -/
def State.countLinkError (s : State) : State :=
  let counted := { s with link := { s.link with errors := min 65535 (s.link.errors + 1) } }
  if s.link.errors = 7 then counted.latch .linkErrors else counted

/-! ### The receiver (R173) -/

/-- The frame being assembled discarded, the receiver left in a state (R173, R174). -/
def Link.discard (l : Link) (r : LinkReceiver) : Link :=
  { l with receiver := r, length := 0, type := 0, payload := [], crc := 0, crcHigh := 0 }

/-- A receiver state in which a frame is in progress (R173). -/
def LinkReceiver.inFrame : LinkReceiver → Bool
  | .length | .type | .payload | .crcHigh | .crcLow => true
  | .hunt | .waitMark => false

/-- What a character brings besides the receiver's next state: nothing, an error to count, or a frame whose CRC agrees. -/
inductive Received
  | nothing
  | error
  | frame (type : Nat) (payload : List Byte)
  deriving DecidableEq, Repr

/-- A character without framing error (R173). -/
def Link.receive (l : Link) (b : Byte) : Link × Received :=
  match l.receiver with
  | .hunt => if b = 0xA5 then ({ l.discard .length with crc := crcInit }, .nothing) else (l, .nothing)
  | .length =>
    if b.toNat ≤ 240 then ({ l with receiver := .type, length := b.toNat, crc := crcByte l.crc b }, .nothing)
    else (l.discard .hunt, .error)
  | .type =>
    ({ l with receiver := if l.length = 0 then .crcHigh else .payload, type := b.toNat, crc := crcByte l.crc b }, .nothing)
  | .payload =>
    ({ l with receiver := if l.payload.length + 1 < l.length then .payload else .crcHigh, payload := l.payload ++ [b],
              crc := crcByte l.crc b }, .nothing)
  | .crcHigh => ({ l with receiver := .crcLow, crcHigh := b.toNat }, .nothing)
  | .crcLow =>
    (l.discard .hunt, if l.crcHigh * 256 + b.toNat = l.crc then .frame l.type l.payload else .error)
  | .waitMark => (l, .nothing)

/-! ### Taking a frame (R175, R176) -/

/-- The response frames that wait. -/
def Link.responses (l : Link) : Nat := (l.tx.filter fun t => t != .notice).length

/-- The payload of a response: its status code byte, then the fields (R176). -/
def Answer.payload (a : Answer) : List Byte := byte a.status.code :: a.fields

/-- What the end of the response's last byte brings (R172, R182). -/
def Answer.tag (a : Answer) : Parsed → FrameTag
  | .request (.restart) => if a.status = .ok then .restart else .plain
  | .request (.configure _) =>
    match a.status, a.state.configStore with
    | .ok, some c => .configure c.linkRate
    | _, _ => .plain
  | _ => .plain

/-- A response joins the tail of what waits to be sent (R176). -/
def State.send (s : State) (f : Frame) : State := { s with link := { s.link with tx := s.link.tx ++ [.response f] } }

/-- The answer to a taken frame of a type below 80h: the checks of R175 in order. -/
def State.answer (s : State) (type : Nat) (p : Parsed) : Answer :=
  match requestLevel type with
  | none => s.deny .unknown
  | some level =>
    if s.phase != .started && type != 0x01 && type != 0x02 then s.deny .starting
    else if s.link.access < level then s.deny .denied
    else
      match p with
      | .request r => if s.fits r then s.serve r else s.deny .format
      | .misfit | .unknown => s.deny .format

/-- The state after an answer, with its response formed (R176). -/
def Answer.respond (a : Answer) (type : Nat) (p : Parsed) : State :=
  a.state.send { type := type + 0x80, payload := a.payload, tag := a.tag p }

/-- A frame whose CRC agrees (R175). None is taken before a reset or a Restart (R182, log 8), and one that finds four responses waiting
is discarded with a count. -/
def State.takeFrame (s : State) (type : Nat) (p : Parsed) : State :=
  if s.life == .on && !s.link.shut then
    if responseDepth ≤ s.link.responses then s.countLinkError
    else if 0x80 ≤ type then s
    else (s.answer type p).respond type p
  else s

/-- A typed request, taken as the frame that carries it. -/
def State.takeRequest (s : State) (r : Request) : State := s.takeFrame r.typeCode (.request r)

/-- A character completes on the incoming line (R173, R182). -/
def State.linkCharacter (s : State) (value : Byte) (stop : Bool) : State :=
  if !s.running || s.link.shut then s
  else if !stop then { s with link := s.link.discard .waitMark }
  else
    let r := s.link.receive value
    let t := { s with link := r.1 }
    match r.2 with
    | .nothing => t
    | .error => t.countLinkError
    | .frame type payload => t.takeFrame type (parseRequest type payload)

/-! ### The link rate (R172) -/

/-- A new link rate takes effect: a frame that was arriving is lost, as a broken one (R172, log 29). -/
def Link.applyRate (l : Link) (rate : Nat) : Link :=
  if rate = l.rate then { l with rateReady := false }
  else
    let changed := { l with rate := rate, rateReady := false }
    if l.receiver.inFrame then changed.discard .waitMark else changed

/-- A response of an accepted Configure still waits to be sent. -/
def Link.configureWaits (l : Link) : Bool :=
  l.tx.any fun t => match t with | .response { tag := .configure _, .. } => true | _ => false

/-- The last byte of a Configure's response has been sent: its rate applies if its store has completed, and otherwise waits for it
(R172). A later Configure is accepted only after that completion (R184). -/
def State.configureSent (s : State) (rate : Nat) : State :=
  if s.configStore.isNone || s.link.configureWaits then { s with link := s.link.applyRate rate }
  else { s with link := { s.link with rateReady := true } }

/-! ### The transmitter (R176, R177, R182) -/

/-- The payload of an attention notice, taken as its first byte is sent (R177, Table 15). -/
def State.noticePayload (s : State) : List Byte := beBytes 4 s.activeMask ++ beBytes 4 s.journal.lastComplete

/-- The bytes of what is sent next. -/
def State.txBytes (s : State) : TxItem → List Byte
  | .response f => frameBytes f.type f.payload
  | .notice => frameBytes 0x70 s.noticePayload

/-- The first of what waits begins to be sent (R176). After a Restart response nothing more is sent (R182). -/
def State.transmit (s : State) : State :=
  if s.running && s.life != .waitRestart && s.link.sending.isNone then
    match s.link.tx with
    | [] => s
    | item :: rest => { s with link := { s.link with tx := rest, sending := some { item := item, bytes := s.txBytes item } } }
  else s

/-- A Restart response has been sent whole: a notice that waits is lost, and the part restarts once its nonvolatile operations are
complete (R182, R192). -/
def State.restartSent (s : State) : State :=
  if s.life = .on then State.restartNow { s with life := .waitRestart, link := { s.link with tx := [] } } else s

/-- What a frame's end brings (R172, R182). -/
def State.afterFrame (s : State) : TxItem → State
  | .notice => s
  | .response f =>
    match f.tag with
    | .plain => s
    | .restart => s.restartSent
    | .configure rate => s.configureSent rate

/-- A frame's last byte has been sent (R176). -/
def State.frameSent (s : State) : State :=
  match s.running, s.link.sending with
  | true, some f => State.afterFrame { s with link := { s.link with sending := none } } f.item
  | _, _ => s

end Sys2Proof.Machine
end

