-- ==== Sys2Proof/Machine/Line.lean ====
section
/-! DEFINITION. The link line family: characters, the gap timeout, the end of WAIT_MARK, a break, and the transmitter (R172 to R177, R182). -/

namespace Sys2Proof.Machine

/-- LINK_CHARACTER (R173, R175). -/
def execLinkCharacter (value : Byte) (stop : Bool) (s : State) : Host.Outcome State Fault Refusal :=
  finish s (s.linkCharacter value stop)

/-- LINK_GAP_TIMEOUT (R173). -/
def execLinkGapTimeout (s : State) : Host.Outcome State Fault Refusal :=
  finish s (if s.running && s.link.receiver.inFrame then { s with link := s.link.discard .hunt } else s)

/-- LINK_WAIT_MARK_END (R173). -/
def execLinkWaitMarkEnd (s : State) : Host.Outcome State Fault Refusal :=
  finish s (if s.running && s.link.receiver == .waitMark then { s with link := { s.link with receiver := .hunt } } else s)

/-- The link after a break (R174). -/
def Link.break_ (l : Link) : Link := { l.discard .waitMark with access := 0 }

/-- LINK_BREAK (R174). -/
def execLinkBreak (s : State) : Host.Outcome State Fault Refusal :=
  finish s (if s.running then { s with link := s.link.break_ } else s)

/-- TRANSMIT_FRAME_START (R176, R177). -/
def execTransmitFrameStart (s : State) : Host.Outcome State Fault Refusal := finish s s.transmit

/-- TRANSMIT_FRAME_END (R172, R176, R177, R182). -/
def execTransmitFrameEnd (s : State) : Host.Outcome State Fault Refusal := finish s s.frameSent

end Sys2Proof.Machine
end

