-- ==== Sys2Proof/Machine/Outputs.lean ====
section
/-! DEFINITION. The outputs family: the intervals and the end of outcome patterns, and what the lamps and the beeper show (R21, R22). -/

namespace Sys2Proof.Machine

/-- The pattern ends when its beep ends (R22). -/
def OutcomeKind.endsWithBeep : OutcomeKind → Bool
  | .ack | .closed => true
  | .grant | .returnOk | .refusal | .lostCard | .holdTrapped | .staffOk | .commandOk => false

/-- The pattern after an interval ends; none when the pattern ends with it: ACK and CLOSED end with their beep, and a pattern whose lamp part
has ended ends with its beep sequence (R22). -/
def Pattern.next (p : Pattern) : Option Pattern :=
  if p.outcome.intervals ≤ p.interval then some p
  else if (p.outcome.endsWithBeep || !p.lit) && decide (p.outcome.intervals ≤ p.interval + 1) then none
  else some { p with interval := p.interval + 1 }

/-- A station's pattern changed. -/
def State.setPattern (s : State) (i : Station) (p : Option Pattern) : State :=
  { s with channels := s.channels.set i { s.channels[i] with pattern := p } }

/-- OUTCOME_PATTERN_TIMER (R22). -/
def execOutcomePatternTimer (i : Station) (s : State) : Host.Outcome State Fault Refusal :=
  finish s (if s.running then s.setPattern i (s.channels[i].pattern.bind Pattern.next) else s)

/-- The pattern after the end of its time (R22): a LOST_CARD pattern has none, and stays until the next take; ACK and CLOSED end with their
beep; the lamps of any other go back to the background, and a beep sequence not yet over sounds on. -/
def Pattern.timedOut (p : Pattern) : Option Pattern :=
  if p.outcome = .lostCard then some p else if p.outcome.endsWithBeep then none else p.unlit

/-- OUTCOME_PATTERN_END (R22). -/
def execOutcomePatternEnd (i : Station) (s : State) : Host.Outcome State Fault Refusal :=
  finish s (if s.running then s.setPattern i (s.channels[i].pattern.bind Pattern.timedOut) else s)

/-- The three lamps and the beeper of a station. -/
structure Signals where
  green : Bool
  red : Bool
  amber : Bool
  beeper : Bool
  deriving DecidableEq, Repr

/-- All dark and silent. -/
def Signals.dark : Signals := { green := false, red := false, amber := false, beeper := false }

/-- The background of a station (R21). -/
def State.background (s : State) (i : Station) : Signals :=
  if s.outOfService i then { Signals.dark with red := true }
  else
    match s.sessions[i].state with
    | .idle => Signals.dark
    | .open_ | .closing => { Signals.dark with amber := true }

/-- The beeper in an interval of a pattern: it sounds in the intervals 0, 2, 4 that are beeps (R22). -/
def Pattern.sounds (p : Pattern) : Bool := p.beeping && p.interval % 2 == 0

/-- The lamps that a pattern's lamp part shows, the beeper silent; ACK and CLOSED show the background (R22). -/
def Pattern.lamps (p : Pattern) (background : Signals) : Signals :=
  match p.outcome with
  | .grant | .returnOk | .commandOk => { Signals.dark with green := true }
  | .refusal | .lostCard => { Signals.dark with red := true }
  | .holdTrapped => { Signals.dark with amber := p.interval % 2 == 0 }
  | .staffOk => { Signals.dark with green := true, amber := true }
  | .ack | .closed => background

/-- What a pattern shows over a background: its lamps while its lamp part runs and the background after it, and its beeper (R22). -/
def Pattern.signals (p : Pattern) (background : Signals) : Signals :=
  { if p.lit then p.lamps background else background with beeper := p.sounds }

/-- What a station shows: dark until the stations are enabled, then its running pattern or its background (R21, R22). -/
def State.signals (s : State) (i : Station) : Signals :=
  if s.enabled then
    match s.channels[i].pattern with
    | some p => p.signals (s.background i)
    | none => s.background i
  else Signals.dark

end Sys2Proof.Machine
end

