-- ==== Sys2Proof/Machine/Power.lean ====
section
/-! DEFINITION. The power and reset family (R143, R192 to R194). -/

namespace Sys2Proof.Machine

/-- POWER_ON (R192): supply rises after an absence. -/
def execPowerOn (s : State) : Host.Outcome State Fault Refusal := finish s (if s.life = .off then s.powerOn else s)

/-- The reset input asserted: a running part waits for its nonvolatile operations (R192), and a Restart that still waits for them gives way to
the reset line's start (log 46); unpowered or in reset only the input moves (log 10). -/
def State.resetAsserted (s : State) : State :=
  { s with resetLine := true,
           life := match s.life with
             | .on | .waitRestart | .waitReset => .waitReset
             | .off => .off
             | .inReset => .inReset }

/-- RESET_LINE_ASSERT (R192). -/
def execResetLineAssert (s : State) : Host.Outcome State Fault Refusal := finish s s.resetAsserted

/-- RESET_ENTERED (R192). -/
def execResetEntered (s : State) : Host.Outcome State Fault Refusal := finish s s.enterReset

/-- The reset input released: a part in reset begins its start-up (R192). -/
def State.resetReleased (s : State) : State :=
  let released := { s with resetLine := false }
  if s.life = .inReset then released.startUp .resetLine else released

/-- RESET_LINE_RELEASE (R192). -/
def execResetLineRelease (s : State) : Host.Outcome State Fault Refusal := finish s s.resetReleased

/-- RECOVERY_COMPLETE (R126, R143, R144, R193). -/
def execRecoveryComplete (s : State) : Host.Outcome State Fault Refusal :=
  finish s (if s.life == .on && s.phase == .recovery then s.recovered else s)

/-- POWER_LOSS (R143, R184, R192). The operands say what the loss leaves of the operations it cuts (log 7). -/
def execPowerLoss (slot : SlotCut) (configureStored : Bool) (s : State) : Host.Outcome State Fault Refusal :=
  finish s (s.losePower slot configureStored)

end Sys2Proof.Machine
end

