-- ==== Sys2Proof/Machine/PrinterEvents.lean ====
section
/-! DEFINITION. The printer family: an accepted byte, the ready input, and the stall timer (R161 to R166). -/

namespace Sys2Proof.Machine

/-- A byte's stop bit has been sent (R163, R164). -/
def State.byteAccepted (s : State) : State := { s with slips := s.slips.accepted s.config s.levels.paperOut s.ready }

/-- PRINTER_BYTE_ACCEPTED (R163, R164). -/
def execPrinterByteAccepted (s : State) : Host.Outcome State Fault Refusal := finish s (if s.running then s.byteAccepted else s)

/-- The ready input takes a level. -/
def State.readyPin (s : State) (ready : Bool) : State := { s with ready := ready }

/-- PRINTER_READY_CHANGE (R161, R163, R166). -/
def execPrinterReadyChange (ready : Bool) (s : State) : Host.Outcome State Fault Refusal :=
  finish s (if s.running then (s.readyPin ready).portTest else s.readyPin ready)

/-- PRINTER_STALL_EXPIRY (R166). -/
def execPrinterStallExpiry (s : State) : Host.Outcome State Fault Refusal :=
  finish s (if s.running && s.slips.stallTimerRuns s.ready then { s with slips := { s.slips with stalled := true } } else s)

end Sys2Proof.Machine
end

