-- ==== Sys2Proof/Machine/Requests.lean ====
section
/-! DEFINITION. The requests family: each row is the request of Table 14 taken as a whole frame whose CRC agrees (R175, R176), the receiver left as it is (log 3). -/

namespace Sys2Proof.Machine

/-- UNKNOWN_REQUEST (R175): a frame of any type and payload. -/
def execUnknownRequest (type : Byte) (payload : List Byte) (s : State) : Host.Outcome State Fault Refusal :=
  finish s (s.takeFrame type.toNat (parseRequest type.toNat payload))

/-- STATUS_READ (R180). -/
def execStatusRead (sect clear : Byte) (s : State) : Host.Outcome State Fault Refusal := finish s (s.takeRequest (.statusRead sect clear))

/-- ACCESS (R178). -/
def execAccess (code : BitVec 32) (s : State) : Host.Outcome State Fault Refusal := finish s (s.takeRequest (.access code))

/-- LEAVE (R178). -/
def execLeave (s : State) : Host.Outcome State Fault Refusal := finish s (s.takeRequest .leave)

/-- CLOCK_SET (R79). -/
def execClockSet (day minute : BitVec 16) (s : State) : Host.Outcome State Fault Refusal := finish s (s.takeRequest (.clockSet day minute))

/-- CLOCK_ADJUST (R79). -/
def execClockAdjust (minutes : Byte) (s : State) : Host.Outcome State Fault Refusal := finish s (s.takeRequest (.clockAdjust minutes))

/-- STATION_CONTROL_SET_MODE (R26): the action byte is 0. -/
def execStationControlSetMode (station mode : Byte) (s : State) : Host.Outcome State Fault Refusal :=
  finish s (s.takeRequest (.stationControl station 0 mode))

/-- STATION_CONTROL_CLOSE_SESSION (R26): the action byte is 1. -/
def execStationControlCloseSession (station mode : Byte) (s : State) : Host.Outcome State Fault Refusal :=
  finish s (s.takeRequest (.stationControl station 1 mode))

/-- CONFIGURE (R184). -/
def execConfigure (record : List Byte) (s : State) : Host.Outcome State Fault Refusal := finish s (s.takeRequest (.configure record))

/-- CONFIGURE_READ (R184). -/
def execConfigureRead (s : State) : Host.Outcome State Fault Refusal := finish s (s.takeRequest .configureRead)

/-- BEGIN_TABLE (R105). -/
def execBeginTable (table : Byte) (count : BitVec 16) (s : State) : Host.Outcome State Fault Refusal :=
  finish s (s.takeRequest (.beginTable table count))

/-- LOAD_ENTRIES (R106, R186). -/
def execLoadEntries (table count : Byte) (entries : List Byte) (s : State) : Host.Outcome State Fault Refusal :=
  finish s (s.takeRequest (.loadEntries table count entries))

/-- END_TABLE (R107). -/
def execEndTable (table : Byte) (crc : BitVec 16) (s : State) : Host.Outcome State Fault Refusal :=
  finish s (s.takeRequest (.endTable table crc))

/-- ABORT_LOAD (R108). -/
def execAbortLoad (table : Byte) (s : State) : Host.Outcome State Fault Refusal := finish s (s.takeRequest (.abortLoad table))

/-- COPY_TABLE (R109). -/
def execCopyTable (table : Byte) (s : State) : Host.Outcome State Fault Refusal := finish s (s.takeRequest (.copyTable table))

/-- COMMIT_SET (R111). -/
def execCommitSet (basis : BitVec 32) (s : State) : Host.Outcome State Fault Refusal := finish s (s.takeRequest (.commitSet basis))

/-- PATCH_BORROWER_SET_FLAGS (R116, R118): operation 0. -/
def execPatchBorrowerSetFlags (card : BitVec 48) (mask : Byte) (s : State) : Host.Outcome State Fault Refusal :=
  finish s (s.takeRequest (.patchBorrower 0 card [mask]))

/-- PATCH_BORROWER_CLEAR_FLAGS (R116, R118): operation 1. -/
def execPatchBorrowerClearFlags (card : BitVec 48) (mask : Byte) (s : State) : Host.Outcome State Fault Refusal :=
  finish s (s.takeRequest (.patchBorrower 1 card [mask]))

/-- PATCH_BORROWER_SET_FINES (R116, R118): operation 2. -/
def execPatchBorrowerSetFines (card : BitVec 48) (fines : BitVec 16) (s : State) : Host.Outcome State Fault Refusal :=
  finish s (s.takeRequest (.patchBorrower 2 card (beBytes 2 fines.toNat)))

/-- PATCH_BORROWER_SET_EXPIRY (R116, R118): operation 3. -/
def execPatchBorrowerSetExpiry (card : BitVec 48) (day : BitVec 16) (s : State) : Host.Outcome State Fault Refusal :=
  finish s (s.takeRequest (.patchBorrower 3 card (beBytes 2 day.toNat)))

/-- PATCH_BORROWER_INSERT (R116, R118): operation 4. -/
def execPatchBorrowerInsert (card : BitVec 48) (entry : List Byte) (s : State) : Host.Outcome State Fault Refusal :=
  finish s (s.takeRequest (.patchBorrower 4 card entry))

/-- PATCH_BORROWER_DELETE (R116, R118): operation 5. -/
def execPatchBorrowerDelete (card : BitVec 48) (s : State) : Host.Outcome State Fault Refusal :=
  finish s (s.takeRequest (.patchBorrower 5 card []))

/-- PATCH_ITEM_INSERT (R117, R118): operation 0. -/
def execPatchItemInsert (key : BitVec 48) (entry : List Byte) (s : State) : Host.Outcome State Fault Refusal :=
  finish s (s.takeRequest (.patchItem 0 key entry))

/-- PATCH_ITEM_DELETE (R117, R118): operation 1. -/
def execPatchItemDelete (key : BitVec 48) (s : State) : Host.Outcome State Fault Refusal := finish s (s.takeRequest (.patchItem 1 key []))

/-- The operand of SET_STATE (Table 16): state, hold card, hold expiry day. -/
def setStateOperand (state : Byte) (holdCard : BitVec 48) (holdExpiry : BitVec 16) : List Byte :=
  state :: (beBytes 6 holdCard.toNat ++ beBytes 2 holdExpiry.toNat)

/-- PATCH_ITEM_SET_STATE (R117, R118): operation 2. -/
def execPatchItemSetState (key : BitVec 48) (state : Byte) (holdCard : BitVec 48) (holdExpiry : BitVec 16) (s : State) :
    Host.Outcome State Fault Refusal :=
  finish s (s.takeRequest (.patchItem 2 key (setStateOperand state holdCard holdExpiry)))

/-- READ_ENTRY_LIVE_TABLE (R123): source 0. -/
def execReadEntryLiveTable (table : Byte) (key : BitVec 48) (s : State) : Host.Outcome State Fault Refusal :=
  finish s (s.takeRequest (.readEntry 0 table key))

/-- READ_ENTRY_LOCAL_LOAN_LIST (R181): source 1. -/
def execReadEntryLocalLoanList (table : Byte) (key : BitVec 48) (s : State) : Host.Outcome State Fault Refusal :=
  finish s (s.takeRequest (.readEntry 1 table key))

/-- JOURNAL_READ (R147, R148). -/
def execJournalRead (start : BitVec 32) (s : State) : Host.Outcome State Fault Refusal := finish s (s.takeRequest (.journalRead start))

/-- JOURNAL_RELEASE (R149 to R151). -/
def execJournalRelease (through : BitVec 32) (s : State) : Host.Outcome State Fault Refusal :=
  finish s (s.takeRequest (.journalRelease through))

/-- PRINTER_CONTROL_STOP (R167): action 0. -/
def execPrinterControlStop (s : State) : Host.Outcome State Fault Refusal := finish s (s.takeRequest (.printerControl 0))

/-- PRINTER_CONTROL_RESUME (R168): action 1. -/
def execPrinterControlResume (s : State) : Host.Outcome State Fault Refusal := finish s (s.takeRequest (.printerControl 1))

/-- PRINTER_CONTROL_ABORT (R169): action 2. -/
def execPrinterControlAbort (s : State) : Host.Outcome State Fault Refusal := finish s (s.takeRequest (.printerControl 2))

/-- PRINTER_CONTROL_REPRINT (R170): action 3. -/
def execPrinterControlReprint (s : State) : Host.Outcome State Fault Refusal := finish s (s.takeRequest (.printerControl 3))

/-- CLEAR_CONDITIONS (R189). -/
def execClearConditions (mask : BitVec 32) (s : State) : Host.Outcome State Fault Refusal := finish s (s.takeRequest (.clearConditions mask))

/-- SET_PROTECTION (R122). -/
def execSetProtection (patchMask loadMask : Byte) (low high : BitVec 48) (complement lock : Byte) (s : State) :
    Host.Outcome State Fault Refusal :=
  finish s (s.takeRequest (.setProtection patchMask loadMask low high complement lock))

/-- SET_CODES (R179). -/
def execSetCodes (level1 level2 : BitVec 32) (s : State) : Host.Outcome State Fault Refusal :=
  finish s (s.takeRequest (.setCodes level1 level2))

/-- SET_CODES_EMPTY (R179). -/
def execSetCodesEmpty (s : State) : Host.Outcome State Fault Refusal := finish s (s.takeRequest .setCodesEmpty)

/-- RESTART (R182). -/
def execRestart (s : State) : Host.Outcome State Fault Refusal := finish s (s.takeRequest .restart)

end Sys2Proof.Machine
end

