-- ==== Sys2Proof/Machine/TableEvents.lean ====
section
/-! DEFINITION. The events of the Table Store and of the configuration record: the ends of a copy, a validation and a Configure store (R110, R112 to R114, R184). -/

namespace Sys2Proof.Machine

/-- A copy ends: the standby table is COMPLETE with the content and CRC taken at acceptance (R110). -/
def TableStore.endCopy (t : TableStore) (c : CopyContext) : TableStore :=
  let b := t.standbyBank
  let stored := t.setBank t.live.other { tables := b.tables.take c.source c.table, crcs := b.crcs.set c.table.index c.crc }
  { stored.setStandby c.table { t.standbyOf c.table with state := .complete } with copy := none }

/-- COPY_END (R110). -/
def execCopyEnd (s : State) : Host.Outcome State Fault Refusal :=
  finish s
    (match s.running, s.tables.copy with
      | true, some c => { s with tables := s.tables.endCopy c }
      | _, _ => s)

/-- The first standby table that fails validation, with its code (R112). -/
def TableStore.firstFailure (t : TableStore) : Option (TableId × Status) :=
  TableId.all.findSome? fun n => (validateTable t.standbyBank.tables t.standbyBank.crcs[n.index] n).map fun st => (n, st)

/-- Validation fails (R113). The copy point goes, as the table leaves COMPLETE (R110). -/
def TableStore.failCommit (t : TableStore) (n : TableId) (st : Status) : TableStore :=
  { t.setStandby n { state := .failed, copyPoint := none, failure := some st } with
    commit := { t.commit with state := .failed, failure := some (n, st) } }

/-- Validation ends (R112 to R114). -/
def State.endValidation (s : State) : State :=
  match s.tables.firstFailure with
  | some f => State.latch { s with tables := s.tables.failCommit f.1 f.2 } .commitFailed
  | none => State.ask { s with tables := { s.tables with commit := { s.tables.commit with validated := true } } } .commit

/-- VALIDATION_END (R112 to R114). -/
def execValidationEnd (s : State) : Host.Outcome State Fault Refusal :=
  finish s
    (if s.running && s.tables.commit.state == .validating && !s.tables.commit.validated then s.endValidation else s)

/-- Two records give a station the same line settings (R1). -/
def StationConfig.sameLine (a b : StationConfig) : Bool := a.rate == b.rate && a.dataBits == b.dataBits && a.parity == b.parity

/-- A channel whose line settings a Configure changes (R1). -/
def State.lineChanged (s : State) (old : ConfigRecord) (i : Station) : State :=
  if old.stations[i].sameLine s.config.stations[i] then s else s.onChannel i Channel.settingsChanged

/-- A link rate that waited for this store applies (R172). -/
def State.rateStored (s : State) : State :=
  if s.link.rateReady then { s with link := s.link.applyRate s.config.linkRate } else s

/-- What a station meets when a new record takes effect: its line settings (R1), then its mode (R24, R25). -/
def State.stationStored (old : State) (s : State) (i : Station) : State := (s.lineChanged old.config i).modeChanged i (old.mode i)

/-- A Configure store completes (R184): the new record takes effect for every user at once, station by station (log 34). -/
def State.configureDone (s : State) (c : ConfigRecord) : State :=
  (([0, 1, 2, 3] : List Station).foldl (State.stationStored s) { s with config := c, configStore := none }).rateStored

/-- CONFIGURE_STORE_COMPLETE (R184, R192). -/
def execConfigureStoreComplete (s : State) : Host.Outcome State Fault Refusal :=
  finishStore s
    (match s.running, s.configStore with
      | true, some c => s.configureDone c
      | _, _ => s)

end Sys2Proof.Machine
end

