-- ==== Sys2Proof/Machine/Wand.lean ====
section
/-! DEFINITION. The wand family: reception, the assembler's step and the gap timer (R2 to R11, R18, R19, R27). -/

namespace Sys2Proof.Machine

/-- The receiver of a channel takes a state. -/
def State.setReceiver (s : State) (i : Station) (r : Receiver) : State :=
  { s with channels := s.channels.set i { s.channels[i] with receiver := r } }

/-- WAND_CHARACTER_START (R2). -/
def execWandCharacterStart (i : Station) (s : State) : Host.Outcome State Fault Refusal :=
  finish s (if s.running && s.channels[i].receiver == .idle then s.setReceiver i .receiving else s)

/-- A character with framing error or break puts the receiver in WAIT_MARK, any other in IDLE (R2). -/
def WandChar.nextReceiver (c : WandChar) : Receiver := if c.framingError || c.isBreak then .waitMark else .idle

/-- The character that a frame gives on a channel's line (R1, R2). -/
def State.wandChar (s : State) (i : Station) (data : Byte) (parity stop : Bool) : WandChar :=
  receiveWand s.config.stations[i].dataBits s.config.stations[i].parity data parity stop

/-- A character completes on a wand line (R2 to R5): stored, and an overrun counted. -/
def State.wandComplete (s : State) (i : Station) (c : WandChar) : State :=
  let r := s.channels[i].accept c
  let stored := s.onChannel i fun _ => { r.1 with receiver := c.nextReceiver }
  if r.2 then stored.countError i else stored

/-- WAND_CHARACTER_COMPLETE (R2, R3, R4). -/
def execWandCharacterComplete (i : Station) (data : Byte) (parity stop : Bool) (s : State) : Host.Outcome State Fault Refusal :=
  finish s
    (if s.running && s.channels[i].receiver == .receiving then s.wandComplete i (s.wandChar i data parity stop) else s)

/-- WAND_WAIT_MARK_END (R2). -/
def execWandWaitMarkEnd (i : Station) (s : State) : Host.Outcome State Fault Refusal :=
  finish s (if s.running && s.channels[i].receiver == .waitMark then s.setReceiver i .idle else s)

/-- The Scan Record of a symbol, with the arrival desk time (R18). -/
def State.scanRecord (s : State) (i : Station) (kind : ScanKind) (ident : Nat) : ScanRecord :=
  { station := i, kind := kind, ident := ident, day := s.clock.day, minute := s.clock.minute }

/-- What a step of the assembler brings (R6, R11, R18, R19), with the discard of a record that arrives at an OUT_OF_SERVICE station
(R27). -/
def State.assembled (s : State) (i : Station) (r : AssemblerResult) : State :=
  let stored := s.onChannel i fun _ =>
    { r.channel with queue := r.channel.queue ++ (r.record.map fun k => s.scanRecord i k.1 k.2).toList }
  (if r.error then stored.countError i else stored).discardScans i

/-- One step of the assembler, when it takes a character (R6). -/
def State.assemblerStep (s : State) (i : Station) : State :=
  match s.channels[i].assemble s.formats with
  | some r => s.assembled i r
  | none => s

/-- ASSEMBLER_STEP (R6). -/
def execAssemblerStep (i : Station) (s : State) : Host.Outcome State Fault Refusal :=
  finish s (if s.running then s.assemblerStep i else s)

/-- The partial symbol discarded as a fragment, and counted (R10). -/
def State.fragment (s : State) (i : Station) : State := (s.onChannel i Channel.dropSymbol).countError i

/-- GAP_TIMER_EXPIRY (R10). -/
def execGapTimerExpiry (i : Station) (s : State) : Host.Outcome State Fault Refusal :=
  finish s (if s.running && s.channels[i].gapTimerRuns then s.fragment i else s)

end Sys2Proof.Machine
end

