-- ==== Sys2Proof/Machine/Dispatch.lean ====
section
/-! DEFINITION. exec: one arm per command, each one direct call of its meaning. -/

namespace Sys2Proof.Machine

/-- The effect of a command on everything but the queue. -/
def exec (i : Instr) (s : State) : Host.Outcome State Fault Refusal :=
  match i with
  | .wandCharacterComplete station data parity stop => Sys2Proof.Machine.execWandCharacterComplete station data parity stop s
  | .wandWaitMarkEnd station => Sys2Proof.Machine.execWandWaitMarkEnd station s
  | .assemblerStep station => Sys2Proof.Machine.execAssemblerStep station s
  | .gapTimerExpiry station => Sys2Proof.Machine.execGapTimerExpiry station s
  | .selectorChange station level => Sys2Proof.Machine.execSelectorChange station level s
  | .paperOutChange out => Sys2Proof.Machine.execPaperOutChange out s
  | .maintenanceChange asserted => Sys2Proof.Machine.execMaintenanceChange asserted s
  | .outcomePatternTimer station => Sys2Proof.Machine.execOutcomePatternTimer station s
  | .outcomePatternEnd station => Sys2Proof.Machine.execOutcomePatternEnd station s
  | .arbiterGrant => Sys2Proof.Machine.execArbiterGrant s
  | .idleTimerExpiry station => Sys2Proof.Machine.execIdleTimerExpiry station s
  | .staffWindowExpiry station => Sys2Proof.Machine.execStaffWindowExpiry station s
  | .slipWaitExpiry station => Sys2Proof.Machine.execSlipWaitExpiry station s
  | .slipReoffer station => Sys2Proof.Machine.execSlipReoffer station s
  | .journalTurn => Sys2Proof.Machine.execJournalTurn s
  | .recordWriteCompletion => Sys2Proof.Machine.execRecordWriteCompletion s
  | .replayEnd => Sys2Proof.Machine.execReplayEnd s
  | .eraseStart => Sys2Proof.Machine.execEraseStart s
  | .eraseComplete => Sys2Proof.Machine.execEraseComplete s
  | .copyEnd => Sys2Proof.Machine.execCopyEnd s
  | .validationEnd => Sys2Proof.Machine.execValidationEnd s
  | .configureStoreComplete => Sys2Proof.Machine.execConfigureStoreComplete s
  | .timebaseEdge => Sys2Proof.Machine.execTimebaseEdge s
  | .timebaseLoss => Sys2Proof.Machine.execTimebaseLoss s
  | .printerByteAccepted => Sys2Proof.Machine.execPrinterByteAccepted s
  | .printerReadyChange ready => Sys2Proof.Machine.execPrinterReadyChange ready s
  | .printerStallExpiry => Sys2Proof.Machine.execPrinterStallExpiry s
  | .linkCharacter value stop => Sys2Proof.Machine.execLinkCharacter value stop s
  | .linkGapTimeout => Sys2Proof.Machine.execLinkGapTimeout s
  | .linkWaitMarkEnd => Sys2Proof.Machine.execLinkWaitMarkEnd s
  | .linkBreak => Sys2Proof.Machine.execLinkBreak s
  | .unknownRequest type payload => Sys2Proof.Machine.execUnknownRequest type payload s
  | .statusRead sect clear => Sys2Proof.Machine.execStatusRead sect clear s
  | .access code => Sys2Proof.Machine.execAccess code s
  | .leave => Sys2Proof.Machine.execLeave s
  | .clockSet day minute => Sys2Proof.Machine.execClockSet day minute s
  | .clockAdjust minutes => Sys2Proof.Machine.execClockAdjust minutes s
  | .stationControlSetMode station mode => Sys2Proof.Machine.execStationControlSetMode station mode s
  | .stationControlCloseSession station mode => Sys2Proof.Machine.execStationControlCloseSession station mode s
  | .configure record => Sys2Proof.Machine.execConfigure record s
  | .configureRead => Sys2Proof.Machine.execConfigureRead s
  | .beginTable table count => Sys2Proof.Machine.execBeginTable table count s
  | .loadEntries table count entries => Sys2Proof.Machine.execLoadEntries table count entries s
  | .endTable table crc => Sys2Proof.Machine.execEndTable table crc s
  | .abortLoad table => Sys2Proof.Machine.execAbortLoad table s
  | .copyTable table => Sys2Proof.Machine.execCopyTable table s
  | .commitSet through => Sys2Proof.Machine.execCommitSet through s
  | .patchBorrowerSetFlags card mask => Sys2Proof.Machine.execPatchBorrowerSetFlags card mask s
  | .patchBorrowerClearFlags card mask => Sys2Proof.Machine.execPatchBorrowerClearFlags card mask s
  | .patchBorrowerSetFines card fines => Sys2Proof.Machine.execPatchBorrowerSetFines card fines s
  | .patchBorrowerSetExpiry card day => Sys2Proof.Machine.execPatchBorrowerSetExpiry card day s
  | .patchBorrowerInsert card entry => Sys2Proof.Machine.execPatchBorrowerInsert card entry s
  | .patchBorrowerDelete card => Sys2Proof.Machine.execPatchBorrowerDelete card s
  | .patchItemInsert item entry => Sys2Proof.Machine.execPatchItemInsert item entry s
  | .patchItemDelete item => Sys2Proof.Machine.execPatchItemDelete item s
  | .patchItemSetState item state holdCard holdExpiry => Sys2Proof.Machine.execPatchItemSetState item state holdCard holdExpiry s
  | .readEntryLiveTable table key => Sys2Proof.Machine.execReadEntryLiveTable table key s
  | .readEntryLocalLoanList table key => Sys2Proof.Machine.execReadEntryLocalLoanList table key s
  | .journalRead through => Sys2Proof.Machine.execJournalRead through s
  | .journalRelease through => Sys2Proof.Machine.execJournalRelease through s
  | .printerControlStop => Sys2Proof.Machine.execPrinterControlStop s
  | .printerControlResume => Sys2Proof.Machine.execPrinterControlResume s
  | .printerControlAbort => Sys2Proof.Machine.execPrinterControlAbort s
  | .printerControlReprint => Sys2Proof.Machine.execPrinterControlReprint s
  | .clearConditions mask => Sys2Proof.Machine.execClearConditions mask s
  | .setProtection patchMask loadMask low high complement lock => Sys2Proof.Machine.execSetProtection patchMask loadMask low high complement lock s
  | .setCodes level1 level2 => Sys2Proof.Machine.execSetCodes level1 level2 s
  | .setCodesEmpty => Sys2Proof.Machine.execSetCodesEmpty s
  | .restart => Sys2Proof.Machine.execRestart s
  | .transmitFrameStart => Sys2Proof.Machine.execTransmitFrameStart s
  | .transmitFrameEnd => Sys2Proof.Machine.execTransmitFrameEnd s
  | .powerOn => Sys2Proof.Machine.execPowerOn s
  | .resetLineAssert => Sys2Proof.Machine.execResetLineAssert s
  | .resetEntered => Sys2Proof.Machine.execResetEntered s
  | .resetLineRelease => Sys2Proof.Machine.execResetLineRelease s
  | .recoveryComplete => Sys2Proof.Machine.execRecoveryComplete s
  | .powerLoss slot configureStored => Sys2Proof.Machine.execPowerLoss slot configureStored s
  | .wandCharacterStart station => Sys2Proof.Machine.execWandCharacterStart station s

end Sys2Proof.Machine
end

