-- ==== Sys2Proof/Safety.lean ====
section
/-! DEFINITION. What a safe run keeps: the invariants of the blocks' state, and the conditions and results that statements about requests share. -/

namespace Sys2Proof.Machine

open Config

/-! ### Invariants -/

/-- A wand channel stays within Table 2: the holding stage is used only while the FIFO is full (R3), and the buffer is empty exactly
in EMPTY (R6). -/
abbrev Channel.Wf (ch : Channel) : Prop :=
  ch.fifo.length ≤ fifoDepth ∧ (ch.holding = none ∨ ch.fifo.length = fifoDepth) ∧ ch.buffer.length ≤ symbolLength
    ∧ (ch.assembler = .empty ↔ ch.buffer = []) ∧ ch.queue.length ≤ scanQueueDepth ∧ ch.errors ≤ 255

/-- Every wand channel is well formed. -/
abbrev State.ChannelsWf (s : State) : Prop := ∀ i : Station, (s.channels[i]).Wf

/-- The byte being sent belongs to the current slip. -/
def PrinterLine.ofSlip : PrinterLine → Bool
  | .sending _ _ true => true
  | .sending _ _ false | .mark => false

/-- The Slip Unit stays within Table 11: at most four slips, none at an IDLE port, a current slip with a byte left to accept exactly in
the port states that have one (R156, R162), a byte of a slip and a stall only while there is one (R166, R169). -/
abbrev SlipUnit.Wf (u : SlipUnit) : Prop :=
  u.queue.length ≤ slipQueueDepth ∧ (u.port = .idle → u.queue = [])
    ∧ (u.port.hasCurrent = true → u.queue ≠ [] ∧ u.position < u.buffer.length)
    ∧ (u.port.hasCurrent = false → u.buffer = [] ∧ u.position = 0)
    ∧ (u.line.ofSlip = true ∨ u.stalled = true → u.port.hasCurrent = true)

/-- The notices that wait or are being sent. -/
def Link.notices (l : Link) : Nat :=
  (l.tx.filter fun t => t == .notice).length + (match l.sending with | some { item := .notice, .. } => 1 | _ => 0)

/-- What the receiver has kept agrees with its state (R173). -/
def Link.frameWf (l : Link) : Prop :=
  l.length ≤ 240 ∧
    match l.receiver with
    | .hunt | .waitMark | .length | .type => l.payload = []
    | .payload => l.payload.length < l.length
    | .crcHigh | .crcLow => l.payload.length = l.length

/-- The link stays within Table 12. A receiver in HUNT or WAIT_MARK keeps no payload. -/
abbrev Link.Wf (l : Link) : Prop :=
  l.responses ≤ responseDepth ∧ l.notices ≤ 1 ∧ l.access ≤ 2 ∧ l.errors ≤ 65535 ∧ l.frameWf

/-- A clock request's figures are in their ranges (R79, R80). -/
def ClockRequest.Wf (q : ClockRequest) : Prop :=
  (match q.op with
    | .set day minute => day ≤ lastDay ∧ minute ≤ 1439
    | .adjust minutes => -15 ≤ minutes ∧ minutes ≤ 15) ∧
    match q.phase with
    | .awaitingTurn => True
    | .writing day minute second _ => day ≤ lastDay ∧ minute ≤ 1439 ∧ second ≤ 59

/-- The Desk Clock stays within Table 5, and a HALTED clock is unset (R76). -/
abbrev Clock.Wf (c : Clock) : Prop :=
  c.day ≤ lastDay ∧ c.minute ≤ 1439 ∧ c.second ≤ 59 ∧ (c.halted = true → c.isSet = false) ∧ ∀ q ∈ c.request, q.Wf

/-- The protection settings stay within R121 and R122; a bound is a 6-byte number (log 15). -/
abbrev Protection.Wf (p : Protection) : Prop :=
  p.patchMask.toNat < 32 ∧ p.low ≤ p.high ∧ p.high < 2 ^ 48 ∧ (p.low = 0 ↔ p.high = 0)

/-- A text of the configuration record: its length and its characters (Table 17, R184). -/
abbrev textInRange (width : Nat) (t : List Byte) : Prop := t.length ≤ width ∧ ∀ c ∈ t, 0x20 ≤ c.toNat ∧ c.toNat ≤ 0x7E

/-- A station's group lies in the ranges of Table 17. -/
abbrev StationConfig.InRange (c : StationConfig) : Prop := c.rate ≤ 5 ∧ (c.dataBits = 7 ∨ c.dataBits = 8) ∧ c.parity ≤ 2

/-- A configuration record lies in the ranges of Table 17 and R184. -/
abbrev ConfigRecord.InRange (c : ConfigRecord) : Prop :=
  (∀ i : Station, (c.stations[i]).InRange) ∧ c.printerRate ≤ 4 ∧ c.linkRate ≤ 4 ∧ 15 ≤ c.idleTimeout ∧ c.idleTimeout ≤ 600
    ∧ c.slipWait ≤ 60 ∧ c.guestCategory ≤ 15 ∧ c.levels.length = 21 ∧ levelsAllowed c.levels = true
    ∧ 1024 ≤ c.highWater ∧ c.highWater ≤ 4032 ∧ c.deskMask.toNat < 2 ^ 18 ∧ c.noticeMask.toNat < 2 ^ 18
    ∧ textInRange 24 c.title ∧ textInRange 32 c.footer1 ∧ textInRange 32 c.footer2

/-- The clock, the protection settings and the configuration records stay in their ranges. -/
abbrev State.SettingsWf (s : State) : Prop :=
  s.clock.Wf ∧ s.tables.protection.Wf ∧ s.config.InRange ∧ ∀ c ∈ s.configStore, c.InRange

/-- The slot store keeps its canonical form, the erase queue and marker name pages of the ring, and the Local Loan List is in strictly
ascending item order, so that no item has two entries (R64, R130, R140). -/
abbrev State.StoreWf (s : State) : Prop :=
  slotsWf s.journal.slots = true ∧ (∀ p ∈ s.journal.eraseQueue, p < pageCount) ∧ (∀ p ∈ s.journal.eraseMarker, p < pageCount)
    ∧ strictlyAscending (s.loans.map (·.item)) = true

/-! ### Requests -/

/-- A frame taken now is served when its request needs an access level (R175): the part runs and no reset or Restart is on its way,
fewer than four responses wait, start-up has ended, and the link's access level suffices. -/
def State.serves (s : State) (level : Nat) : Bool :=
  s.life == .on && !s.link.shut && decide (s.link.responses < responseDepth) && s.phase == .started && decide (level ≤ s.link.access)

/-- What a request served at `s` leaves when it takes the state to `t`: the response of a type and payload joins the tail of what waits
(R176), and a routed condition that has become active begins a notice (R177). -/
def answered (s t : State) (type : Nat) (payload : List Byte) : State :=
  settle s (t.send { type := type, payload := payload, tag := .plain })

/-- The characters of a run of bytes received one after another, each with a good stop bit. -/
def State.receiveAll (s : State) (bytes : List Byte) : State := bytes.foldl (fun u b => u.linkCharacter b true) s

/-! ### The store and the byte layouts, as statements speak of them -/

/-- The store holds the record `r` in the slot that its sequence belongs to (R129, R143). -/
def Journal.Holds (j : Journal) (r : JournalRecord) : Prop :=
  1 ≤ r.sequence ∧ findSlot j.slots ((r.sequence - 1) % 4096) = some (.record r)

/-- The page of a sequence number (R129, R130). -/
def pageOf (sequence : Nat) : Nat := (sequence - 1) % 4096 / 32

/-- The bytes from an offset on spell a number of so many bytes, most significant first (R185). -/
def Spells (bytes : List Byte) (offset width value : Nat) : Prop := (bytes.drop offset).take width = beBytes width value

/-! ### The standard forms that statements about arithmetic compare with -/

/-- The sum over some digits given from the rightmost one, the digit at position k (from 1) weighed by `odd` when k is odd and taken as it
is when k is even (R16, R17). -/
def positionalSum (odd : Nat → Nat) (fromRight : List Nat) : Nat :=
  (fromRight.mapIdx fun k d => if (k + 1) % 2 = 1 then odd d else d).sum

/-- The sum S of W31: an odd position's digit multiplied by 3 (R16). -/
def sumW31 (fromRight : List Nat) : Nat := positionalSum (fun d => 3 * d) fromRight

/-- The sum S of W21: an odd position's digit doubled, less 9 when the double is greater than 9 (R17). -/
def sumW21 (fromRight : List Nat) : Nat := positionalSum (fun d => if 9 < 2 * d then 2 * d - 9 else 2 * d) fromRight

/-- A Symbol Format entry matches a symbol (R13). -/
def SymbolFormat.Matches (f : SymbolFormat) (sym : List Byte) : Bool :=
  decide (f.minLength ≤ sym.length ∧ sym.length ≤ f.maxLength) && f.lead == sym.take f.lead.length &&
    (f.kind == .ignore ||
      (decide (f.strip < sym.length) && ((sym.drop f.strip).all fun b => decide (0x30 ≤ b.toNat ∧ b.toNat ≤ 0x39))
        && decide ((sym.drop f.strip).length ≤ 14)
        && (sym.drop f.strip).any fun b => b.toNat != 0x30))

/-- The identity digits of a symbol under an entry (R13). -/
def SymbolFormat.digitsIn (f : SymbolFormat) (sym : List Byte) : List Nat := (sym.drop f.strip).map fun b => b.toNat - 0x30

end Sys2Proof.Machine
end

