-- ==== Sys2Proof/Certificates/Slice0/Obligations.lean ====
section
/-! DEFINITION. The statements for the provers. "The result" of a command is the next state its equation gives; `settle s t` is `t` with a notice begun where a routed condition became active (stated by DeskAttnAndNotices). -/

open Sys2Proof Sys2Proof.Machine Sys2Proof.Config

/-! ### The machine -/

/-- A step takes the command at the front of the queue and runs it on the state with the rest of the queue; on an empty queue the block
idles. Both are the model's own form (log 2). -/
def Obligations.StepTakesFrontCommand : Prop :=
  ∀ s : State,
    (∀ c rest, s.pending = c :: rest → step s = exec c { s with pending := rest }) ∧ (s.pending = [] → step s = .next s)

/-- No command stops the machine: one whose event cannot happen answers next too, with nothing done (log 1). None touches the queue of
commands, which is the model's own (log 2). -/
def Obligations.EveryCommandAnswersNext : Prop := ∀ (c : Instr) (s : State), ∃ t, exec c s = .next t ∧ t.pending = s.pending

/-- The factory part at the start of its first power-on: what POWER_ON makes of any unpowered part that holds the factory values, with
its inputs at the levels the model starts from (log 5, log 6). The model's own count of free values is kept, whatever it is. -/
def Obligations.ResetIsFirstPowerOn : Prop :=
  ∀ s : State,
    s.life = .off → s.pending = [] → s.pins = Levels.initial → s.ready = false → s.resetLine = false →
    s.tables = TableStore.factory → s.config = ConfigRecord.factory → s.journal.slots = [] → s.journal.released = 0 →
    s.journal.eraseMarker = none → s.journal.tornMark = false → s.journal.erasedAgainMark = false →
    s.link.code1 = 0xFFFFFFFF → s.link.code2 = 0xFFFFFFFF →
    exec .powerOn s = .next { State.reset with draws := s.draws }

/-! ### Scan path -/

/-- A fall to space in IDLE, and one whole character time at mark in WAIT_MARK (R2); a partial symbol that the gap timer ends (R10) and
the error counter it adds to (R19). -/
def Obligations.WandStartsAndFragments : Prop :=
  ∀ (s : State) (i : Station), s.running = true →
    (s.channels[i].receiver = .idle →
      exec (.wandCharacterStart i) s
        = .next (settle s { s with channels := s.channels.set i { s.channels[i] with receiver := .receiving } })) ∧
    (s.channels[i].receiver = .waitMark →
      exec (.wandWaitMarkEnd i) s = .next (settle s { s with channels := s.channels.set i { s.channels[i] with receiver := .idle } })) ∧
    (s.channels[i].assembler ≠ .empty → s.channels[i].fifo = [] → s.channels[i].holding = none → s.channels[i].hold = false →
      exec (.gapTimerExpiry i) s
        = .next (settle s
            ((s.onChannel i fun ch =>
              { ch with assembler := .empty, damage := false, afterTerminator := false, buffer := [] }).countError i)))

/-- A wand error adds 1 to its station's counter, held at 255, and the step from 15 to 16 latches its WAND_FAULT and nothing else (R19); the link
error count gains 1, held at 65535, and the step that brings it to 8 latches LINK_ERRORS and nothing else (R173). -/
def Obligations.ErrorCountersLatch : Prop :=
  (∀ (s : State) (i : Station),
    s.countError i
      = { s with
          channels := s.channels.set i
            { s.channels[i] with errors := if s.channels[i].errors < 255 then s.channels[i].errors + 1 else 255 },
          latched :=
            if s.channels[i].errors = 15 then { s.latched with wandFault := s.latched.wandFault.set i true } else s.latched }) ∧
  (∀ s : State,
    s.countLinkError
      = { s with
          link := { s.link with errors := if s.link.errors < 65535 then s.link.errors + 1 else 65535 },
          latched := if s.link.errors = 7 then { s.latched with linkErrors := true } else s.latched })

/-- The value and the marks of a completed wand character (R2). `ones` counts the ones of the data bits and of the parity bit; parity code
0 is none, 1 even, 2 odd (Table 17). -/
def Obligations.WandCharacterMarks : Prop :=
  ∀ (dataBits parityCode : Nat) (data : Byte) (parity stop : Bool),
    let value : Byte := if dataBits = 7 then data &&& 0x7F else data
    let ones := ((List.range 8).filter fun k => value.getLsbD k).length + (if parity then 1 else 0)
    let allSpace := value = 0 ∧ stop = false ∧ (parityCode = 0 ∨ parity = false)
    receiveWand dataBits parityCode data parity stop
      = { value := value, isBreak := decide allSpace, lossNote := false,
          framingError := decide (¬allSpace ∧ stop = false),
          parityError := decide (¬allSpace ∧ (parityCode = 1 ∧ ones % 2 = 1 ∨ parityCode = 2 ∧ ones % 2 = 0)) }

/-- A completed character enters the FIFO, waits in the holding stage, or replaces the character that is lost there (R2 to R4). The hold
line is tested each time: released and asserted by the fill of the FIFO and of the scan queue, and released in OUT_OF_SERVICE (R5). -/
def Obligations.WandCharacterStored : Prop :=
  (∀ (s : State) (i : Station) (data : Byte) (parity stop : Bool),
    s.running = true → s.channels[i].receiver = .receiving →
    let c := receiveWand s.config.stations[i].dataBits s.config.stations[i].parity data parity stop
    let ch := { s.channels[i] with receiver := if c.framingError || c.isBreak then Receiver.waitMark else .idle }
    let result := exec (.wandCharacterComplete i data parity stop) s
    (s.channels[i].holding = none → s.channels[i].fifo.length < 16 →
      result = .next (settle s (s.onChannel i fun _ => { ch with fifo := ch.fifo ++ [c] }))) ∧
    (s.channels[i].holding = none → 16 ≤ s.channels[i].fifo.length →
      result = .next (settle s (s.onChannel i fun _ => { ch with holding := some c }))) ∧
    (s.channels[i].holding.isSome = true →
      result = .next (settle s
        ((s.onChannel i fun _ => { ch with holding := some { c with lossNote := true }, overrun := true }).countError i)))) ∧
  (∀ (outOfService : Bool) (ch : Channel), ch.retest outOfService
    = { ch with
        hold :=
          if outOfService then false
          else if ch.hold then decide (8 < ch.fifo.length ∨ 4 ≤ ch.queue.length)
          else decide (12 ≤ ch.fifo.length ∨ 4 ≤ ch.queue.length) })

/-- One step of the assembler: breaks, terminators, the line feed after one, and ordinary characters (R6 to R9), with the disposal of a symbol
and its Scan Record (R11, R18). At an OUT_OF_SERVICE station whose session is not CLOSING the scan queue is emptied (R27); that a record is
discarded with the step that makes it is the model's form (log 19). That DISCARDING keeps the symbol buffer is the model's choice (log 38). -/
def Obligations.AssemblerTakesCharacter : Prop :=
  ∀ (s : State) (i : Station) (c : WandChar) (rest : List WandChar),
    s.running = true → s.channels[i].fifo = c :: rest → s.channels[i].queue.length < 4 →
    let old := s.channels[i]
    let ch := { old with fifo := rest ++ old.holding.toList, holding := none, afterTerminator := false }
    let ended := { ch with assembler := .empty, damage := false, afterTerminator := true, buffer := [] }
    let appended := { ch with
      assembler := .collecting, buffer := ch.buffer ++ [c.value],
      damage := ch.damage || c.parityError || c.framingError || c.lossNote }
    let terminator := c.value = 0x0D ∧ c.parityError = false ∧ c.framingError = false
    let droppedFeed := old.afterTerminator = true ∧ c.value = 0x0A ∧ c.parityError = false ∧ c.framingError = false ∧ c.lossNote = false
    let record := fun kind ident => ({ station := i, kind := kind, ident := ident, day := s.clock.day, minute := s.clock.minute } : ScanRecord)
    let left := fun k : Channel =>
      s.onChannel i fun _ => { k with queue := if s.mode i = .outOfService ∧ s.sessions[i].state ≠ .closing then [] else k.queue }
    let result := exec (.assemblerStep i) s
    (c.isBreak = true → result = .next (settle s (left { ch with assembler := .empty, damage := false, buffer := [] }))) ∧
    (c.isBreak = false → terminator → old.assembler = .empty → result = .next (settle s (left ch))) ∧
    (c.isBreak = false → terminator → (old.assembler = .discarding ∨ old.assembler = .collecting ∧ (old.damage = true ∨ c.lossNote = true)) →
      result = .next (settle s ((left ended).countError i))) ∧
    (c.isBreak = false → terminator → old.assembler = .collecting → old.damage = false → c.lossNote = false →
      (s.tables.valid = false →
        result = .next (settle s (left { ended with queue := old.queue ++ [record .unreadable 0] }))) ∧
      (s.tables.valid = true → ∀ kind ident, classify s.tables.liveTables.symbols old.buffer = .scan kind ident →
        result = .next (settle s (left { ended with queue := old.queue ++ [record kind ident] }))) ∧
      (s.tables.valid = true → classify s.tables.liveTables.symbols old.buffer = .dropped → result = .next (settle s (left ended)))) ∧
    (c.isBreak = false → droppedFeed → result = .next (settle s (left ch))) ∧
    (c.isBreak = false → ¬terminator → ¬droppedFeed →
      (old.assembler = .empty → old.buffer = [] → old.damage = false → result = .next (settle s (left appended))) ∧
      (old.assembler = .collecting → old.buffer.length < 32 → result = .next (settle s (left appended))) ∧
      (old.assembler = .collecting → 32 ≤ old.buffer.length →
        result = .next (settle s (left { ch with damage := true, assembler := .discarding }))) ∧
      (old.assembler = .discarding → result = .next (settle s (left ch))))

/-- The first entry that matches decides: IGNORE drops the symbol, a passing check gives a record of the entry's kind, a failing one a
BAD_CHECK with the identity as scanned, and no match an UNREADABLE (R13, R14). -/
def Obligations.FirstMatchClassifies : Prop :=
  ∀ (formats : List SymbolFormat) (sym : List Byte),
    classify formats sym =
      match formats.find? fun f => f.Matches sym with
      | none => .scan .unreadable 0
      | some f =>
        let ident := (f.digitsIn sym).foldl (fun n d => 10 * n + d) 0
        if f.kind = .ignore then .dropped
        else if checkPasses f.check (f.digitsIn sym) then
          .scan (match f.kind with
            | .borrower => .borrower | .item => .item | .staff => .staff | .command => .command | .ignore => .unreadable) ident
        else .scan .badCheck ident

/-- Under each scheme a check digit passes exactly when it is (10 − S mod 10) mod 10, S the scheme's sum over the data digits counted from
the rightmost one (R16, R17). A leading zero changes no check, and a single digit passes exactly when it is 0 (R15). -/
def Obligations.CheckSchemesWeighPositions : Prop :=
  (∀ (data : List Nat) (check : Nat),
    (checkPasses .w31 (data ++ [check]) = true ↔ check = (10 - sumW31 data.reverse % 10) % 10) ∧
    (checkPasses .w21 (data ++ [check]) = true ↔ check = (10 - sumW21 data.reverse % 10) % 10)) ∧
  (∀ scheme : CheckScheme, scheme ≠ .none →
    (∀ identity : List Nat, identity ≠ [] → checkPasses scheme (0 :: identity) = checkPasses scheme identity) ∧
    (∀ d : Nat, checkPasses scheme [d] = true ↔ d = 0))

/-- What a station shows (R21, R22): dark until the stations are enabled, then the background of its mode and session, or its pattern: the
outcome's lamps while the lamp part runs and the background after it, the beeper in its beeps. The intervals and the end of an outcome
pattern (R22): ACK and CLOSED end with their beep, LOST_CARD has no end of its own, and a beep sequence that the lamp part leaves unfinished
sounds on to its end. How a pattern is cut into intervals is the model's (log 33). -/
def Obligations.PatternsAdvanceAndEnd : Prop :=
  (∀ (s : State) (i : Station),
    let dark : Bool × Bool × Bool := (false, false, false)
    let green := (true, false, false)
    let red := (false, true, false)
    let amber := (false, false, true)
    let shows := fun (lamps : Bool × Bool × Bool) (beeper : Bool) =>
      s.signals i = { green := lamps.1, red := lamps.2.1, amber := lamps.2.2, beeper := beeper }
    (s.running = false ∨ s.phase ≠ .started → shows dark false) ∧
    (s.running = true → s.phase = .started →
      let background := if s.mode i = .outOfService then red else if s.sessions[i].state = .idle then dark else amber
      (s.channels[i].pattern = none → shows background false) ∧
      (∀ p, s.channels[i].pattern = some p →
        let lamps := match p.outcome with
          | .grant | .returnOk | .commandOk => green
          | .refusal | .lostCard => red
          | .holdTrapped => if p.interval % 2 = 0 then amber else dark
          | .staffOk => (true, false, true)
          | .ack | .closed => background
        let beeps := match p.outcome with
          | .grant | .ack | .staffOk | .closed => [0]
          | .refusal | .commandOk => [0, 2]
          | .lostCard => [0, 2, 4]
          | .returnOk | .holdTrapped => []
        shows (if p.lit then lamps else background) (decide (p.interval ∈ beeps))))) ∧
  (∀ (s : State) (i : Station) (p : Pattern), s.running = true → s.channels[i].pattern = some p →
    let count := match p.outcome with
      | .grant | .staffOk | .ack | .closed => 1 | .commandOk | .refusal => 3 | .lostCard => 5 | .holdTrapped => 11 | .returnOk => 0
    let becomes := fun q : Option Pattern => Host.Outcome.next (φ := Fault) (ρ := Refusal)
      (settle s { s with channels := s.channels.set i { s.channels[i] with pattern := q } })
    let withBeep := p.outcome = .ack ∨ p.outcome = .closed
    (p.interval + 1 < count ∨ p.interval + 1 = count ∧ p.lit = true ∧ ¬withBeep →
      exec (.outcomePatternTimer i) s = becomes (some { p with interval := p.interval + 1 })) ∧
    (p.interval + 1 = count ∧ (p.lit = false ∨ withBeep) → exec (.outcomePatternTimer i) s = becomes none) ∧
    (count ≤ p.interval → exec (.outcomePatternTimer i) s = becomes (some p)) ∧
    (p.outcome = .lostCard → exec (.outcomePatternEnd i) s = becomes (some p)) ∧
    (withBeep → exec (.outcomePatternEnd i) s = becomes none) ∧
    (p.outcome ≠ .lostCard → ¬withBeep → (p.outcome = .holdTrapped ∨ count ≤ p.interval) → exec (.outcomePatternEnd i) s = becomes none) ∧
    (p.outcome ≠ .lostCard → ¬withBeep → p.outcome ≠ .holdTrapped → p.interval < count →
      exec (.outcomePatternEnd i) s = becomes (some { p with lit := false })))

/-! ### Inputs -/

/-- The effective mode of a station (R24), and a debounced selector level (R20, R24, R25): nothing more while the effective mode stays; an OPEN
session with no scan at the engine closes with CLOSED when it changes, and the hold line is tested. -/
def Obligations.SelectorActsThroughMode : Prop :=
  (∀ (s : State) (i : Station),
    (s.config.stations[i].mode = .outOfService → s.mode i = .outOfService) ∧
    (s.config.stations[i].mode ≠ .outOfService → s.config.stations[i].selectorEnabled = false →
      s.mode i = s.config.stations[i].mode) ∧
    (s.config.stations[i].mode ≠ .outOfService → s.config.stations[i].selectorEnabled = true →
      s.mode i = match s.levels.selector[i] with | .loan => .loan | .returns => .returns)) ∧
  (∀ (s : State) (i : Station) (level : SelectorLevel), s.running = true →
    let moved := { s with
      pins := { s.pins with selector := s.pins.selector.set i level },
      levels := { s.levels with selector := s.levels.selector.set i level } }
    let result := exec (.selectorChange i level) s
    (moved.mode i = s.mode i → result = .next (settle s moved)) ∧
    (moved.mode i ≠ s.mode i → s.sessions[i].state ≠ .open_ → result = .next (settle s (moved.onChannel i id))) ∧
    (moved.mode i ≠ s.mode i → s.sessions[i].state = .open_ → s.inFlight i = true →
      result = .next (settle s ((moved.onSession i fun x => { x with closePending := true }).onChannel i id))) ∧
    (moved.mode i ≠ s.mode i → s.sessions[i].state = .open_ → s.inFlight i = false →
      result = .next (settle s ((moved.beginClose i (some .closed)).onChannel i id))))

/-! ### Sessions -/

/-- The start of a close (R43): the session freezes, and with an empty list or slips disabled its record is asked for at once, with the slip
outcome NONE; otherwise a LOAN_SLIP of the whole list is offered. The expiries of a session's timers, and a waiting slip taken when room
appears (R35, R38, R44, R45, R46): a loan slip's end asks for the SESSION_CLOSE record, a hold slip's asks for nothing. -/
def Obligations.SessionsClose : Prop :=
  (∀ (s : State) (i : Station) (o : OutcomeKind),
    let x := s.sessions[i]
    let frozen := { x with
      state := SessionState.closing, idleTimer := false, lastRefusal := none, closePending := false, closeTime := s.clock.stamp }
    let shown := State.display { s with sessions := s.sessions.set i frozen } i o
    let slip : Slip := { station := i, time := s.clock.stamp, card := x.card, body := .loan x.granted, copy := false }
    ((x.granted = [] ∨ s.config.stations[i].slipsEnabled = false) →
      s.beginClose i (some o)
        = { shown with
            sessions := shown.sessions.set i { frozen with slipOutcome := .none },
            journal := { s.journal with requests := s.journal.requests ++ [.close i] } }) ∧
    (x.granted ≠ [] → s.config.stations[i].slipsEnabled = true →
      (s.slips.queue.length < 4 →
        s.beginClose i (some o)
          = { shown with
              slips := s.slips.join s.config s.levels.paperOut s.ready slip,
              sessions := shown.sessions.set i { frozen with slipOutcome := .queued },
              journal := { s.journal with requests := s.journal.requests ++ [.close i] } }) ∧
      (4 ≤ s.slips.queue.length → s.config.slipWait ≠ 0 →
        s.beginClose i (some o) = { shown with sessions := shown.sessions.set i { frozen with slipWait := some slip } }))) ∧
  (∀ (s : State) (i : Station), s.running = true →
    (s.sessions[i].state = .open_ → s.sessions[i].idleTimer = true →
      exec (.idleTimerExpiry i) s = .next (settle s (s.beginClose i (some .closed)))) ∧
    (exec (.staffWindowExpiry i) s = .next (settle s { s with sessions := s.sessions.set i { s.sessions[i] with window := none } })) ∧
    (∀ slip, s.sessions[i].slipWait = some slip →
      (∀ entries, slip.body = .loan entries →
        exec (.slipWaitExpiry i) s
          = .next (settle s { s with
              sessions := s.sessions.set i { s.sessions[i] with slipWait := none, slipOutcome := .dropped },
              latched := { s.latched with slipDropped := true },
              journal := { s.journal with requests := s.journal.requests ++ [.close i] } })) ∧
      (∀ item expiry, slip.body = .hold item expiry →
        exec (.slipWaitExpiry i) s
          = .next (settle s { s with
              sessions := s.sessions.set i { s.sessions[i] with slipWait := none },
              latched := { s.latched with slipDropped := true } })) ∧
      (∀ entries, slip.body = .loan entries → s.slips.queue.length < 4 →
        exec (.slipReoffer i) s
          = .next (settle s { s with
              sessions := s.sessions.set i { s.sessions[i] with slipWait := none, slipOutcome := .queued },
              slips := s.slips.join s.config s.levels.paperOut s.ready slip,
              journal := { s.journal with requests := s.journal.requests ++ [.close i] } })) ∧
      (∀ item expiry, slip.body = .hold item expiry → s.slips.queue.length < 4 →
        exec (.slipReoffer i) s
          = .next (settle s { s with
              sessions := s.sessions.set i { s.sessions[i] with slipWait := none },
              slips := s.slips.join s.config s.levels.paperOut s.ready slip }))))

/-- The arbiter grants the first eligible station in the order after the one granted last (R28). -/
def Obligations.ArbiterGoesRound : Prop :=
  ∀ (s : State),
    (∀ i, s.nextStation = some i ↔
      s.eligible i = true ∧ ∀ k : Station, ((k.val + 3 - s.lastGranted.val) % 4 < (i.val + 3 - s.lastGranted.val) % 4) → s.eligible k = false) ∧
    (s.nextStation = none ↔ ∀ i, s.eligible i = false)

/-- A grant to a station whose session is OPEN or IDLE (R28 to R30, R33): an item, staff, unreadable or badly checked scan goes to the engine with
its class and context, a card at a RETURN station is settled at the take, and another borrower's card stays at the head and closes the
session. A COMMAND card is settled at the take (R41): obeyed when the window is open at its level or above, with the window closed and the
action and outcome of R42, and otherwise REFUSAL and nothing more. A take ends the lamps of a LOST_CARD pattern, whose beeps sound on (R22). -/
def Obligations.GrantTakesHeadScan : Prop :=
  ∀ (s : State) (i : Station) (scan : ScanRecord) (rest : List ScanRecord),
    s.life = .on → s.engine.phase = .free → s.journal.writer ≠ .replaying → s.nextStation = some i →
    s.channels[i].queue = scan :: rest →
    let granted := { s with lastGranted := i }
    let x := s.sessions[i]
    let afterTake := fun p : Pattern =>
      if p.outcome ≠ .lostCard then some p else if p.interval < 5 then some { p with lit := false } else none
    let taken := (granted.onChannel i fun ch => { ch with queue := rest, pattern := ch.pattern.bind afterTake }).onSession i
        fun y => { y with lastRefusal := if scan.kind = .staff then y.lastRefusal else none, idleTimer := false }
    let sent := fun (task : Task) (cls : RequestClass) => { taken with
      engine := { s.engine with
        phase := .awaitingTurn, verdict := none,
        decision := some { station := i, scan := scan, task := task, sessionState := x.state, card := x.card, guest := x.guest,
                           lastRefusal := if scan.kind = .staff then x.lastRefusal else none, requestClass := cls } },
      journal := { s.journal with requests := s.journal.requests ++ [.engine] } }
    let result := exec .arbiterGrant s
    (x.state = .open_ → scan.kind = .item → result = .next (settle s (sent .loanItem .loanClass))) ∧
    (x.state = .open_ → scan.kind = .borrower → scan.ident ≠ x.card → result = .next (settle s (granted.beginClose i (some .closed)))) ∧
    (x.state = .open_ → scan.kind = .borrower → scan.ident = x.card → result = .next (settle s (taken.beginClose i (some .closed)))) ∧
    (x.state = .open_ → scan.kind = .staff →
      result = .next (settle s (sent .staffCard (if x.lastRefusal.isSome then .loanClass else .returnClass)))) ∧
    (x.state = .idle → scan.kind = .borrower → s.mode i = .loan → result = .next (settle s (sent .cardLookup .loanClass))) ∧
    (x.state = .idle → scan.kind = .borrower → s.mode i = .mixed → result = .next (settle s (sent .cardLookup .returnClass))) ∧
    (x.state = .idle → scan.kind = .borrower → s.mode i = .returns → result = .next (settle s (taken.display i .ack))) ∧
    (x.state = .idle → scan.kind = .item → s.mode i = .loan → result = .next (settle s (sent .noBorrower .returnClass))) ∧
    (x.state = .idle → scan.kind = .item → s.mode i = .returns ∨ s.mode i = .mixed →
      result = .next (settle s (sent .returnItem .returnClass))) ∧
    (x.state = .idle → scan.kind = .staff → result = .next (settle s (sent .staffCard .returnClass))) ∧
    (x.state ≠ .closing → scan.kind = .unreadable ∨ scan.kind = .badCheck → result = .next (settle s (sent .badScan .returnClass))) ∧
    (x.state ≠ .closing → scan.kind = .command →
      let idleAgain := fun t : State => if x.state = .open_ then t.onSession i fun y => { y with idleTimer := decide (y.state = .open_) } else t
      let ends := fun t : State => result = .next (settle s (idleAgain t))
      let number := scan.ident
      let level := if number = 8 then 2 else 1
      let obeyed := 1 ≤ number ∧ number ≤ 8 ∧ ∃ w, x.window = some w ∧ level ≤ w.level
      let acts := taken.onSession i fun y => { y with window := none }
      let ok := acts.display i .commandOk
      let outcome := fun answeredOk : Prop => fun t : State => (answeredOk → ends (t.display i .commandOk)) ∧ (¬answeredOk → ends (t.display i .refusal))
      (¬obeyed → ends (taken.display i .refusal)) ∧
      (obeyed →
        (number = 1 → x.state = .open_ → ends (acts.beginClose i (some .commandOk))) ∧
        (number = 1 → x.state = .idle → ends ok) ∧
        (number = 2 → ends (ok.setMode i .loan)) ∧
        (number = 3 → ends (ok.setMode i .returns)) ∧
        (number = 4 → ends (ok.setMode i .mixed)) ∧
        (number = 5 →
          outcome (s.slips.lastPrinted ≠ none ∧ s.slips.queue.length < 4)
            { acts with slips := (s.slips.reprint s.config s.levels.paperOut s.ready).2 }) ∧
        (number = 6 →
          outcome (s.slips.port = .held ∨ s.slips.port = .stopping)
            { acts with slips := (s.slips.resume s.config s.levels.paperOut s.ready).getD s.slips }) ∧
        (number = 7 → ends ((acts.clearConditions 0x8003FE00).display i .commandOk)) ∧
        (number = 8 → ends (acts.setMode i .outOfService))))

/-! ### Decisions and due dates -/

/-- The checks of a loan evaluation, in the order of R53 and with the figures of R52: the first whose reason is not overridden (R62) decides, and
refuses with its reason and the record of R73; a duplicate (R57) comes between checks 9 and 11. When none fails the loan, transfer or
renewal is granted with the record of R71 and the due time of R61. What follows for an item scan, which overrides nothing: at an unrecorded
turn it is refused, writes no record, and is counted (R51), and a grant has passed every check. -/
def Obligations.LoanChecksHold : Prop :=
  (∀ (s : State) (d : Decision) (recorded : Bool) (item : Nat) (overridden : List Reason) (staff : Option Nat) (window : Option Window),
    let t := s.tables.liveTables
    let today := s.clock.day
    let guest : Borrower :=
      { card := d.card, category := s.config.guestCategory, flags := { adminBlock := false, overdueBlock := false, lost := false },
        snapshot := 0, limitAdjust := 0, fines := 0, thresholdAdjust := 0, expiry := 0 }
    let found := if d.guest then some guest else t.borrower? d.card
    let b := found.getD guest
    let category := t.category b.category
    let hold := t.exception? item
    let inForce := hold.any fun e => e.state = .holdWaiting ∨ e.state = .holdOnShelf ∧ today ≤ e.holdExpiry.getD 0
    let holdCard := (hold.map (·.holdCard)).getD 0
    let entry := findLoan s.loans item
    let own := entry.any fun e => e.card = d.card
    let others := entry.any fun e => e.card ≠ d.card
    let cell := t.cell b.category (t.itemClass item)
    let limit : Int := max 0 (min 99 (category.loanLimit + b.limitAdjust))
    let threshold : Int := max 0 (min 65535 (category.threshold + b.thresholdAdjust))
    let current := b.snapshot + (s.loans.filter fun e => e.card = d.card).length
    let stateIs := fun st => (hold.map (·.state)) = some st
    let upTo9 : List (Prop × Reason) :=
      [(s.tables.valid = false, .tablesInvalid), (s.clock.isSet = false, .clockUnset),
       (24 ≤ s.sessions[d.station].granted.length, .sessionFull), (recorded = false, .journalFull), (found = none, .noRecord),
       (b.expiry ≠ 0 ∧ b.expiry < today, .expired), (b.flags.adminBlock = true ∨ b.flags.overdueBlock = true, .blocked),
       (threshold < b.fines, .fines), (stateIs .notForLoan, .notForLoan), (stateIs .missing, .itemAlert),
       (stateIs .onLoanElsewhere, .onLoan), (inForce = true ∧ holdCard ≠ d.card, .held)]
    let from11 : List (Prop × Reason) :=
      [(others = true, .onLoan), (own = true ∧ cell.renewals ≤ (entry.map (·.renewals)).getD 0, .renewLimit),
       (cell.kind = .notLoanable, .notLoanable), (own = false ∧ limit < current + 1, .limit), (entry = none ∧ 1024 ≤ s.loans.length, .localFull)]
    let passes := fun checks : List (Prop × Reason) => ∀ c ∈ checks, c.1 → c.2 ∈ overridden
    let firstFails := fun (checks : List (Prop × Reason)) (r : Reason) =>
      ∃ before after c, checks = before ++ (c, r) :: after ∧ passes before ∧ c ∧ r ∉ overridden
    let duplicate := ∃ g ∈ s.sessions[d.station].granted, g.item = item
    let base : JournalRecord :=
      { sequence := s.journal.lastComplete + 1, day := if s.clock.isSet then today else 65535,
        minute := if s.clock.isSet then s.clock.minute else 0, kind := .refusal, station := d.station.val, reason := 0, flags := {},
        card := d.card, item := item, dueDay := 0, dueMinute := 0, aux0 := staff.getD 0, aux1 := 0, aux2 := 0 }
    let v := s.evaluateLoan d recorded item overridden staff window
    (∀ r, firstFails upTo9 r ∨ passes upTo9 ∧ ¬duplicate ∧ firstFails from11 r →
      v = { kind := .refused, reason := some r, outcome := some .refusal, window := window, unrecorded := !recorded,
            lastRefusal := .set { item := item, reason := r, overridden := overridden },
            latch := if r = .itemAlert then some .itemAlert else none,
            record :=
              if recorded then
                some { base with
                  reason := r.code, flags := { undated := !s.clock.isSet, guest := d.guest, override := staff.isSome } }
              else none }) ∧
    (passes upTo9 → duplicate → v = { kind := .duplicate, outcome := some .ack, lastRefusal := .clear, window := window }) ∧
    (passes upTo9 → ¬duplicate → passes from11 →
      let c := t.calendar
      let expiry := if today ≤ b.expiry then b.expiry else 0
      let due := match cell.kind with
        | .hours => c.hourLoan today s.clock.minute cell.period expiry category.capDay
        | .days | .notLoanable => c.dayLoan today cell.period expiry category.capDay
      ∃ r : JournalRecord,
        v = { kind := if own then .renew else .loan, outcome := some .grant, lastRefusal := .clear, window := window, record := some r,
              granted := some { item := item, dueDay := due.day, dueMinute := due.minute, renewed := own } }
          ∧ r = { base with
                  kind := if own then .renew else .loan, dueDay := due.day, dueMinute := due.minute, flags := r.flags,
                  aux1 := if own then min 15 ((entry.map (·.renewals)).getD 0 + 1) else 0 }
          ∧ r.flags = { due.flags with
                undated := !s.clock.isSet, guest := d.guest, override := staff.isSome,
                transferred := others, holdFilled := inForce && holdCard == d.card })) ∧
  (∀ (s : State) (d : Decision) (recorded : Bool), d.task = .loanItem →
    s.evaluate d recorded = s.evaluateLoan d recorded d.scan.ident [] none none) ∧
  (∀ (s : State) (d : Decision), d.task = .loanItem →
    let v := s.evaluate d false
    v.kind = .refused ∧ v.record = none ∧ v.granted = none ∧ v.outcome = some .refusal ∧ v.unrecorded = true
      ∧ v.reason ∈ [some Reason.tablesInvalid, some Reason.clockUnset, some Reason.sessionFull, some Reason.journalFull]) ∧
  (∀ (s : State) (d : Decision) (g : Granted), d.task = .loanItem → (s.evaluate d true).granted = some g →
    ∃ b, s.borrowerOf d = some b ∧ s.tables.valid = true ∧ s.clock.isSet = true ∧ s.sessions[d.station].granted.length < 24
      ∧ (b.expiry = 0 ∨ s.clock.day ≤ b.expiry) ∧ b.flags.adminBlock = false ∧ b.flags.overdueBlock = false
      ∧ b.fines ≤ effectiveThreshold (s.tables.liveTables.category b.category) b
      ∧ g.item = d.scan.ident
      ∧ (∀ e, s.tables.liveTables.exception? g.item = some e →
          e.holds s.clock.day = true ∧ e.holdCard = d.card ∨ e.state = .holdOnShelf ∧ e.holdExpiry.getD 0 < s.clock.day)
      ∧ (∀ e, findLoan s.loans g.item = some e → e.card = d.card)
      ∧ (findLoan s.loans g.item = none → s.loans.length < 1024))

/-- A card lookup follows the table of R31: the first case that applies decides. A staff card (R37, R40): an unknown one is refused UNREADABLE;
a found one opens a window, and with a last refusal it is an override attempt, refused at an unrecorded turn, refused with the same reason at
too low a level, and otherwise evaluated again with that reason overridden. -/
def Obligations.CardsAreLookedUp : Prop :=
  ∀ (s : State) (d : Decision) (recorded : Bool),
    let v := s.evaluate d recorded
    let refused := fun (reason : Reason) => v.kind = .refused ∧ v.reason = some reason ∧ v.outcome = some .refusal ∧ v.opens = none
      ∧ v.record.isSome = recorded ∧ v.unrecorded = !recorded
    let t := s.tables.liveTables
    (d.task = .cardLookup →
      let card := d.scan.ident
      let inUse := ∃ k : Station, k ≠ d.station ∧ s.sessions[k].state ≠ .idle ∧ s.sessions[k].card = card
      (s.tables.valid = false → refused .tablesInvalid) ∧
      (s.tables.valid = true → recorded = false → refused .journalFull) ∧
      (s.tables.valid = true → recorded = true →
        (∀ b, t.borrower? card = some b → b.flags.lost = true →
          v.kind = .lostCard ∧ v.outcome = some .lostCard ∧ v.latch = some .lostCardPresented ∧ v.opens = none
            ∧ ∃ r, v.record = some r ∧ r.kind = .lostCard ∧ r.card = card) ∧
        ((∀ b, t.borrower? card = some b → b.flags.lost = false) →
          (inUse → refused .cardInUse) ∧
          (¬inUse → t.borrower? card = none → s.config.guestMode = false → refused .noRecord) ∧
          (¬inUse → t.borrower? card = none → s.config.guestMode = true →
            v.kind = .opened ∧ v.opens = some true ∧ v.record = none ∧ v.outcome = none) ∧
          (¬inUse → (t.borrower? card).isSome = true →
            v.kind = .opened ∧ v.opens = some false ∧ v.record = none ∧ v.outcome = none)))) ∧
    (d.task = .staffCard →
      ((s.tables.valid = false ∨ t.staff? d.scan.ident = none) → refused .unreadable) ∧
      (s.tables.valid = true → ∀ index e, t.staff? d.scan.ident = some (index, e) →
        v.window = some { index := index, level := e.level } ∧
        ((d.sessionState ≠ .open_ ∨ d.lastRefusal = none) → v.kind = .staffFound ∧ v.outcome = some .staffOk ∧ v.record = none) ∧
        (d.sessionState = .open_ → ∀ last, d.lastRefusal = some last →
          (recorded = false → refused .journalFull) ∧
          (recorded = true → (s.config.level last.reason = 0 ∨ e.level < s.config.level last.reason) →
            v.kind = .refused ∧ v.reason = some last.reason ∧ v.outcome = some .refusal ∧ v.record = none) ∧
          (recorded = true → s.config.level last.reason ≠ 0 → s.config.level last.reason ≤ e.level →
            v = s.evaluateLoan d true last.item
              (if last.reason ∈ last.overridden then last.overridden else last.overridden ++ [last.reason]) (some index)
              (some { index := index, level := e.level })))))

/-- A return (R68 to R70, R72): refused while the live set is invalid, and otherwise a RETURN record whose flags follow the item's exception entry and
whose borrower and due time are those of its Local Loan List entry; a trapped hold has its expiry and its slip. -/
def Obligations.ReturnFollowsItsEntries : Prop :=
  ∀ (s : State) (d : Decision), d.task = .returnItem →
    let v := s.evaluate d true
    let item := d.scan.ident
    let c := s.tables.liveTables.calendar
    let stateIs := fun st => ∃ e, s.tables.liveTables.exception? item = some e ∧ e.state = st
    (s.tables.valid = false → v.kind = .refused ∧ v.reason = some .tablesInvalid ∧ v.outcome = some .refusal) ∧
    (s.tables.valid = true →
      ∃ r, v.kind = .returned ∧ v.record = some r ∧ r.kind = .returned ∧ r.item = item ∧ r.station = d.station.val
        ∧ r.sequence = s.journal.lastComplete + 1
        ∧ (s.clock.isSet = true → r.day = s.clock.day ∧ r.minute = s.clock.minute ∧ r.flags.undated = false)
        ∧ (s.clock.isSet = false → r.day = 65535 ∧ r.minute = 0 ∧ r.flags.undated = true ∧ r.flags.late = false)
        ∧ (findLoan s.loans item = none → r.card = 0 ∧ r.flags.late = false)
        ∧ (∀ l, findLoan s.loans item = some l →
            r.card = l.card ∧ r.dueDay = l.dueDay ∧ r.dueMinute = l.dueMinute
              ∧ (s.clock.isSet = true →
                  (r.flags.late = true ↔ l.dueDay < s.clock.day ∨ l.dueDay = s.clock.day ∧ l.dueMinute < s.clock.minute)))
        ∧ (r.flags.found = true ↔ stateIs .missing) ∧ (r.flags.exceptionCleared = true ↔ stateIs .onLoanElsewhere)
        ∧ (r.flags.holdAlready = true ↔ stateIs .holdOnShelf)
        ∧ (r.flags.holdTrapped = true ↔ s.clock.isSet = true ∧ stateIs .holdWaiting)
        ∧ (r.flags.holdTrapped = true → r.shelfDay = c.rollForward (min (s.clock.day + c.header.shelfDays) 36524))
        ∧ v.latch = (if r.flags.found then some .itemAlert else none)
        ∧ v.outcome = some (if r.flags.holdTrapped then .holdTrapped else .returnOk)
        ∧ v.holdSlip.isSome = r.flags.holdTrapped)

/-- The effects of a decision, all together (R34, R35, R38, R50, R51), at a part whose stations are enabled: the session opens, or takes the grant
and the last refusal; the window (none at an OUT_OF_SERVICE station, R25), the latch, the outcome pattern and the last decision result follow;
an unrecorded refusal is counted; and the engine is FREE. A trapped hold's slip is offered, waits or is dropped (R46). A close that is
pending, or that of a session just opened at a RETURN or OUT_OF_SERVICE station, begins with CLOSED (R25, R29). -/
def Obligations.DecisionEffectsApply : Prop :=
  ∀ (s : State) (d : Decision) (v : Verdict) (sequence : Nat), s.running = true → s.phase = .started →
    (∀ slip, v.holdSlip = some slip → ∃ item expiry, slip.body = .hold item expiry) →
    let i := d.station
    let x := s.sessions[i]
    let out := s.mode i = .outOfService
    let window := if out then none else match v.window with | some w => some w | none => x.window
    let session := match v.opens with
      | some guest =>
        { x with
          state := .open_, card := d.scan.ident, guest := guest, granted := [], lastRefusal := none, closePending := false,
          window := window, idleTimer := true }
      | none =>
        { x with
          granted := x.granted ++ v.granted.toList, window := window, idleTimer := decide (x.state = .open_),
          lastRefusal := match v.lastRefusal with | .keep => x.lastRefusal | .clear => none | .set r => some r }
    let decided := { s with
      sessions := s.sessions.set i session,
      channels := match v.outcome with
        | some o =>
          if out then s.channels
          else s.channels.set i { s.channels[i] with pattern := some { outcome := o, interval := 0, lit := true } }
        | none => s.channels,
      latched := match v.latch with | some c => s.latched.put true c | none => s.latched,
      engine := { s.engine with
        phase := .free, decision := none, verdict := none,
        last := s.engine.last.set i (some { kind := v.kind, reason := v.reason, ident := d.scan.ident, sequence := sequence }),
        unrecorded := if v.unrecorded then min 65535 (s.engine.unrecorded + 1) else s.engine.unrecorded } }
    let offered := match v.holdSlip with
      | some slip =>
        if s.config.stations[i].slipsEnabled = false then decided
        else if s.slips.queue.length < 4 then { decided with slips := s.slips.join s.config s.levels.paperOut s.ready slip }
        else if s.config.slipWait = 0 then { decided with latched := { decided.latched with slipDropped := true } }
        else { decided with sessions := s.sessions.set i { session with slipWait := some slip } }
      | none => decided
    let closes := session.state = .open_ ∧ (session.closePending = true ∨ v.opens.isSome = true ∧ (s.mode i = .returns ∨ out))
    (¬closes → s.applyVerdict d v sequence = offered) ∧ (closes → s.applyVerdict d v sequence = offered.beginClose i (some .closed))

/-- A forward roll looks at each day from N upward: every day it passes is closed, and it ends on an open day, after 21 steps, or at day 36524
(R85). A backward roll looks downward to today in the same way (R86). A computation sets ROLL_LIMIT exactly for a roll that ended on a closed
day: the forward roll of a hold expiry, the forward and the backward roll of a day loan, and those of an hour loan that goes on to another day
(`limitDay` is the limit day of R89). -/
def Obligations.RollsEndAsStated : Prop :=
  (∀ (c : Calendar) (n : Nat), n ≤ lastDay →
    let r := c.rollForward n
    n ≤ r ∧ r ≤ n + 21 ∧ r ≤ lastDay ∧ (∀ d, n ≤ d → d < r → c.closed d = true) ∧ (c.closed r = true → r = n + 21 ∨ r = lastDay)) ∧
  (∀ (c : Calendar) (today n : Nat), today ≤ n →
    let r := c.rollBackward today n
    today ≤ r ∧ r ≤ n ∧ n ≤ r + 21 ∧ (∀ d, r < d → d ≤ n → c.closed d = true) ∧ (c.closed r = true → n = r + 21 ∨ r = today)) ∧
  (∀ (c : Calendar) (today : Nat),
    (c.holdExpiry today).flags.rollLimit = c.closed (c.rollForward (min (today + c.header.shelfDays) 36524))) ∧
  (∀ (c : Calendar) (today period expiry cap : Nat),
    let rolled := c.rollForward (min (today + period) 36524)
    (c.dayLoan today period expiry cap).flags.rollLimit
      = match limitDay today expiry cap with
        | some l => if l < rolled then c.closed rolled || c.closed (c.rollBackward today l) else c.closed rolled
        | none => c.closed rolled) ∧
  (∀ (c : Calendar) (today minute hours expiry cap : Nat),
    let first := c.rollForward (today + 1)
    let sameDay := c.closed today = false ∧ minute < c.closeMinute today ∧ minute + 60 * hours ≤ c.closeMinute today
    (¬sameDay → today < 36524 →
      (c.hourLoan today minute hours expiry cap).flags.rollLimit
        = match limitDay today expiry cap with
          | some l => if l < first then c.closed first || c.closed (c.rollBackward today l) else c.closed first
          | none => c.closed first) ∧
    ((sameDay ∨ today = 36524) → (expiry = 0 ∨ today ≤ expiry) → (c.hourLoan today minute hours expiry cap).flags.rollLimit = false))

/-- The due time of a day loan (R87 to R90): its day lies between today and day 36524, and not after the limit day when there is one; a loan
clamped to the limit day, the earlier of the expiry and the cap that are present, falls due where that day's backward roll ends (R86, R89);
its minute is the close minute of its day; and each flag says exactly what its rule says of the days the stages left. -/
def Obligations.DayLoanDueTime : Prop :=
  ∀ (c : Calendar) (today period expiry cap : Nat), today ≤ lastDay → (expiry = 0 ∨ today ≤ expiry ∧ expiry ≤ lastDay) → cap ≤ lastDay →
    let due := c.dayLoan today period expiry cap
    let rolled := c.rollForward (min (today + period) lastDay)
    let limitIs := fun l : Nat =>
      (expiry ≠ 0 ∧ l = expiry ∨ cap ≠ 0 ∧ today ≤ cap ∧ l = cap) ∧ (expiry ≠ 0 → l ≤ expiry) ∧ (cap ≠ 0 → today ≤ cap → l ≤ cap)
    today ≤ due.day ∧ due.day ≤ lastDay ∧ due.minute = c.closeMinute due.day
      ∧ (expiry ≠ 0 → due.day ≤ expiry) ∧ (cap ≠ 0 → today ≤ cap → due.day ≤ cap)
      ∧ (due.flags.clamped = false → due.day = rolled)
      ∧ (∀ l, limitIs l → l < rolled → due.flags.clamped = true ∧ due.day = c.rollBackward today l)
      ∧ (due.flags.clamped = true ↔ (expiry ≠ 0 ∧ expiry < rolled ∨ cap ≠ 0 ∧ today ≤ cap ∧ cap < rolled))
      ∧ (due.flags.dateSaturated = true ↔ lastDay < today + period)
      ∧ (due.flags.beyondHorizon = true ↔ c.header.horizon < due.day)
      ∧ due.flags.shortClamped = false

/-- The due time of an hour loan (R91 to R93): the same day at M + 60P when that is not after closing; otherwise on the day the forward roll of
tomorrow gives, the remainder r after its opening, or at its closing with SHORT_CLAMPED when r runs past that; on day 36524 at closing with
DATE_SATURATED. A due day after the limit day becomes the day that day's backward roll gives, at its closing. -/
def Obligations.HourLoanDueTime : Prop :=
  ∀ (c : Calendar) (today minute hours expiry cap : Nat), today ≤ lastDay → (expiry = 0 ∨ today ≤ expiry) →
    let due := c.hourLoan today minute hours expiry cap
    let counts := c.closed today = false ∧ minute < c.closeMinute today
    let sameDay := counts ∧ minute + 60 * hours ≤ c.closeMinute today
    let next := c.rollForward (today + 1)
    let limitIs := fun l : Nat =>
      (expiry ≠ 0 ∧ l = expiry ∨ cap ≠ 0 ∧ today ≤ cap ∧ l = cap) ∧ (expiry ≠ 0 → l ≤ expiry) ∧ (cap ≠ 0 → today ≤ cap → l ≤ cap)
    (sameDay → due.day = today ∧ due.minute = minute + 60 * hours ∧ due.flags.clamped = false ∧ due.flags.shortClamped = false) ∧
    (today ≤ due.day ∧ due.minute ≤ c.closeMinute due.day) ∧
    (expiry ≠ 0 → due.day ≤ expiry) ∧ (cap ≠ 0 → today ≤ cap → due.day ≤ cap) ∧
    (¬sameDay → due.flags.clamped = false → today < lastDay → due.day = next) ∧
    (¬sameDay → today < lastDay →
      ∀ r, (counts → c.closeMinute today + r = minute + 60 * hours) → (¬counts → r = 60 * hours) →
        let short := c.closeMinute next < c.openMinute next + r
        (due.flags.shortClamped = true ↔ short) ∧
        ((∀ l, limitIs l → next ≤ l) →
          due.day = next ∧ due.flags.clamped = false ∧ due.minute = if short then c.closeMinute next else c.openMinute next + r) ∧
        (∀ l, limitIs l → l < next →
          due.day = c.rollBackward today l ∧ due.flags.clamped = true ∧ due.minute = c.closeMinute due.day)) ∧
    (¬sameDay → today = lastDay → due.flags.shortClamped = false ∧ due.minute = c.closeMinute due.day ∧
      ((∀ l, limitIs l → lastDay ≤ l) → due.day = lastDay ∧ due.flags.clamped = false) ∧
      (∀ l, limitIs l → l < lastDay → due.day = c.rollBackward today l ∧ due.flags.clamped = true)) ∧
    (due.flags.dateSaturated = true ↔ ¬sameDay ∧ today = lastDay) ∧
    (due.flags.beyondHorizon = true ↔ c.header.horizon < due.day)

/-! ### The journal -/

/-- What the head request is given, by its class and free (R129, R134, R135). JOURNAL_TURN for a head request that is due a recorded turn: its
record takes the next sequence and is being written, and the request has left the order (R45, R114, R119, R128, R133, R136); the Decision
Engine's is the record its evaluation forms, with the verdict kept for the completion, and where it forms none the decision's effects apply
at once (R48). At an unrecorded turn they apply at once and nothing is written (R48, R51). A head request that waits leaves all as it was. That
the RESTART record is formed at its turn is the model's reading (log 23). -/
def Obligations.TurnServesHeadRequest : Prop :=
  (∀ j : Journal,
    (j.exhausted = false → 64 < j.free → j.headWritable = true → ∀ cls, j.turnFor cls = .recorded) ∧
    (j.exhausted = false → 1 ≤ j.free → j.free ≤ 64 → j.headWritable = true → j.turnFor .returnClass = .recorded) ∧
    (j.free ≤ 64 → j.turnFor .loanClass = .unrecorded) ∧
    (j.free = 0 → j.turnFor .returnClass = .waits) ∧
    (j.exhausted = true → j.turnFor .loanClass = .unrecorded ∧ j.turnFor .returnClass = .waits) ∧
    (j.exhausted = false → 64 < j.free → j.headWritable = false → ∀ cls, j.turnFor cls = .waits) ∧
    (j.headWritable = false → j.turnFor .returnClass = .waits)) ∧
  (∀ (s : State) (rest : List Requester), s.life = .on → s.journal.writer = .idle →
    let writing := fun (r : JournalRecord) (owner : Requester) => Host.Outcome.next (φ := Fault) (ρ := Refusal)
      (settle s { s with journal := { s.journal with requests := rest, writer := .writing r owner } })
    let base : JournalRecord :=
      { sequence := s.journal.lastComplete + 1, day := if s.clock.isSet then s.clock.day else 65535,
        minute := if s.clock.isSet then s.clock.minute else 0, kind := .restart, station := 15, reason := 0,
        flags := { undated := !s.clock.isSet }, card := 0, item := 0, dueDay := 0, dueMinute := 0, aux0 := 0, aux1 := 0, aux2 := 0 }
    (s.journal.turnFor .returnClass = .recorded →
      (∀ i : Station, s.journal.requests = .close i :: rest →
        let x := s.sessions[i]
        exec .journalTurn s = writing
          { base with
            kind := .sessionClose, station := i.val, day := x.closeTime.day, minute := x.closeTime.minute, card := x.card,
            flags := { undated := x.closeTime.day == 65535, guest := x.guest }, aux0 := x.granted.length, aux1 := x.slipOutcome.code }
          (.close i)) ∧
      (s.journal.requests = .commit :: rest →
        exec .journalTurn s = writing
          { base with kind := .tableCommit, card := s.tables.basis, item := s.tables.commit.basis, aux0 := s.tables.live.other.code }
          .commit) ∧
      (s.journal.requests = .restart :: rest →
        exec .journalTurn s = writing
          { base with
            card := s.tables.basis, item := s.journal.released, aux0 := s.startCause.code,
            aux1 := flagBit s.journal.tornMark 0 + flagBit s.journal.erasedAgainMark 1, aux2 := flagBit s.tables.valid 0 }
          .restart) ∧
      (∀ p, s.journal.requests = .patch :: rest → s.tables.patch = some p →
        exec .journalTurn s = writing (p.record { base with kind := .tablePatch }) .patch)) ∧
    (∀ d, s.journal.requests = .engine :: rest → s.engine.decision = some d →
      let popped := { s with journal := { s.journal with requests := rest } }
      (s.journal.turnFor d.requestClass = .recorded →
        let v := popped.evaluate d true
        (∀ r, v.record = some r →
          exec .journalTurn s
            = .next (settle s { s with
                engine := { s.engine with phase := .writing, verdict := some v },
                journal := { s.journal with requests := rest, writer := .writing r .engine } })) ∧
        (v.record = none → exec .journalTurn s = .next (settle s (popped.applyVerdict d v 0)))) ∧
      (d.requestClass = .loanClass → d.task = .loanItem ∨ d.task = .cardLookup ∨ d.task = .staffCard →
        s.journal.turnFor .loanClass = .unrecorded →
        exec .journalTurn s = .next (settle s (popped.applyVerdict d (popped.evaluate d false) 0))) ∧
      (s.journal.turnFor d.requestClass = .waits → exec .journalTurn s = .next s)) ∧
    (∀ r, s.journal.requests = r :: rest → r ≠ .engine → s.journal.turnFor .returnClass = .waits → exec .journalTurn s = .next s))

/-- A completed record (R129, R136, R148): it is the last complete one and reads back whole from its slot, the next sequence is one
greater, and every other slot is as it was. Its page becomes FILLING with the record in its slot 0 and FULL with the one in its slot 31 (R130);
with the first record of a page the page before it is released when it is FULL and every record in it is released (R139), and joins the erase
queue. No other page changes. Where none is released, a record written into a blank slot of a page that is ERASED or FILLING takes one free
slot (R131). -/
def Obligations.CompletedRecordIsReadable : Prop :=
  ∀ (s : State) (r : JournalRecord) (owner : Requester), s.life = .on → s.journal.writer = .writing r owner →
    r.sequence = s.journal.lastComplete + 1 →
    let slot := s.journal.lastComplete % 4096
    let p := slot / 32
    let before := (p + 127) % 128
    let releases := slot % 32 = 0 ∧ s.journal.page before = .full
      ∧ ∀ q, s.journal.Holds q → pageOf q.sequence = before → q.sequence ≤ s.journal.released
    ∃ t, exec .recordWriteCompletion s = .next t ∧ t.journal.lastComplete = r.sequence ∧ t.journal.nextSequence = r.sequence + 1
      ∧ t.journal.record? r.sequence = some r
      ∧ (∀ n, n ≠ slot → findSlot t.journal.slots n = findSlot s.journal.slots n)
      ∧ t.journal.page p = (if slot % 32 = 0 then .filling else if slot % 32 = 31 then .full else s.journal.page p)
      ∧ (∀ q, q ≠ p → q ≠ before → t.journal.page q = s.journal.page q)
      ∧ (slotsWf s.journal.slots = true →
          (releases → t.journal.page before = .released ∧ t.journal.eraseQueue = s.journal.eraseQueue ++ [before]) ∧
          (¬releases → t.journal.page before = s.journal.page before ∧ t.journal.eraseQueue = s.journal.eraseQueue) ∧
          (¬releases → findSlot s.journal.slots slot = none → s.journal.page p = .erased ∨ s.journal.page p = .filling →
            t.journal.used = s.journal.used + 1 ∧ (1 ≤ s.journal.free → t.journal.free + 1 = s.journal.free)))

/-- What a completion brings besides the record itself, by who asked for it (R45, R80, R114, R119, R136 to R138); `kept` is the state with the
record's effects on the list and the live tables. A clock's new time moves on by the edges counted while its record was written (R80). A close
that ends at an OUT_OF_SERVICE station empties its scan queue (R27). A part that waits for its reset takes the completion as a running one
does; one that waits for its Restart restarts with it, once no erase and no Configure store is in progress (R145, R182). The flip (R114): the
former standby bank is live with its tables and stored CRCs, the basis is the record's S, the live set is valid, every table of the new
standby bank is EMPTY, the list is empty, and the writer and the commit replay (R115, R141). -/
def Obligations.CompletionServesRequester : Prop :=
  (∀ (s : State) (r : JournalRecord), s.running = true →
    let kept := { s with
      journal := { s.journal.complete r with writer := .idle }, loans := applyToLoans r s.loans,
      tables := s.tables.rewriteLive (applyToTables r) }
    let ends := fun u : State =>
      let t := settle s u
      exec .recordWriteCompletion s
        = .next (if s.life = .waitRestart ∧ t.journal.eraseMarker = none ∧ t.configStore = none then
            settle t (t.resetBlocks.startUp .restartRequest)
          else t)
    (s.journal.writer = .writing r .restart → ends kept) ∧
    (s.journal.writer = .writing r .patch → ends { kept with tables := { kept.tables with patch := none } }) ∧
    (∀ i : Station, s.journal.writer = .writing r (.close i) →
      ends { kept with
        sessions := s.sessions.set i
          { s.sessions[i] with state := .idle, card := 0, guest := false, granted := [], closePending := false, slipOutcome := .none },
        channels := if s.mode i = .outOfService then s.channels.set i { s.channels[i] with queue := [], hold := false } else s.channels }) ∧
    (∀ op day minute second edges, s.journal.writer = .writing r .clock →
      s.clock.request = some { op := op, phase := .writing day minute second edges } →
      let new := { s.clock with day := day, minute := minute, second := second, isSet := true, halted := false, request := none }
      ends { kept with clock := (List.range edges).foldl (fun c _ => c.advance) new }) ∧
    (∀ d v, s.journal.writer = .writing r .engine → s.engine.decision = some d → s.engine.verdict = some v →
      ends (kept.applyVerdict d v r.sequence))) ∧
  (∀ (s : State) (r : JournalRecord), s.life = .on → s.journal.writer = .writing r .commit → r.kind = .tableCommit →
    ∃ t, exec .recordWriteCompletion s = .next t
      ∧ t.tables.live = s.tables.live.other ∧ t.tables.bank t.tables.live = s.tables.bank s.tables.live.other
      ∧ t.tables.basis = r.item ∧ t.tables.valid = true ∧ (∀ n, t.tables.standbyOf n = Standby.empty)
      ∧ t.tables.commit = { s.tables.commit with state := .replaying } ∧ t.loans = [] ∧ t.journal.writer = .replaying
      ∧ t.tables.protection = s.tables.protection ∧ t.config = s.config ∧ t.sessions = s.sessions ∧ t.channels = s.channels)

/-- The end of a replay (R115, R126, R141, R146, R193): the list is what the complete records above the basis give in order, the live tables
take their effects while the live set is valid, the writer is IDLE, and a commit is DONE, or start-up asks for its RESTART record and
enables the stations. -/
def Obligations.ReplayRebuildsList : Prop :=
  ∀ s : State, s.life = .on → s.journal.writer = .replaying →
    let above := s.journal.recordsAbove s.tables.basis
    let list := above.foldl (fun l r => applyToLoans r l) []
    let tables := if s.tables.valid then s.tables.rewriteLive (fun t => above.foldl (fun u r => applyToTables r u) t) else s.tables
    (s.phase = .replay → tables.commit.state = .idle →
      exec .replayEnd s
        = .next (settle s { s with
            loans := list, tables := tables, phase := .started,
            journal := { s.journal with writer := .idle, requests := s.journal.requests ++ [.restart] } })) ∧
    (s.phase = .started → tables.commit.state = .replaying →
      exec .replayEnd s
        = .next (settle s { s with
            loans := list, tables := { tables with commit := { tables.commit with state := .done } },
            journal := { s.journal with writer := .idle } }))

/-- What a record's effects are, and that they are idempotent (R137, R138). On the Local Loan List a LOAN puts the entry of R65 for its item, a
RENEW changes that entry where there is one, a RETURN removes it, and other kinds do nothing. On the live tables a grant with HOLD_FILLED and
a RETURN with FOUND or EXCEPTION_CLEARED remove the item's exception entry, one with HOLD_TRAPPED puts it on the shelf, each only in the state
it names, and a TABLE_PATCH acts as R116 and R117 give. Every other entry stays. An INSERT inserts whatever the table's count is (log 45). -/
def Obligations.RecordEffectsAreIdempotent : Prop :=
  (∀ (r : JournalRecord) (l : List LoanEntry), applyToLoans r (applyToLoans r l) = applyToLoans r l) ∧
  (∀ (r : JournalRecord) (t : TableSet), applyToTables r (applyToTables r t) = applyToTables r t) ∧
  (∀ (r : JournalRecord) (l : List LoanEntry),
    let after := applyToLoans r l
    (∀ item, item ≠ r.item → findLoan after item = findLoan l item) ∧
    (r.kind = .loan →
      findLoan after r.item
        = some { item := r.item, card := r.card, sequence := r.sequence, dueDay := r.dueDay, dueMinute := r.dueMinute, renewals := 0,
                 override := r.flags.override, transferred := r.flags.transferred }) ∧
    (r.kind = .renew →
      findLoan after r.item = (findLoan l r.item).map fun e =>
        { e with sequence := r.sequence, dueDay := r.dueDay, dueMinute := r.dueMinute, renewals := r.aux1, override := r.flags.override }) ∧
    (r.kind = .returned → findLoan after r.item = none) ∧
    (r.kind ≠ .loan → r.kind ≠ .renew → r.kind ≠ .returned → after = l)) ∧
  (∀ (r : JournalRecord) (t : TableSet),
    let after := applyToTables r t
    let old := t.exception? r.item
    let entry := after.exception? r.item
    let onlyItem := after = { t with exceptions := after.exceptions } ∧ ∀ item, item ≠ r.item → after.exception? item = t.exception? item
    (r.kind = .loan ∨ r.kind = .renew → onlyItem ∧
      (∀ e, r.flags.holdFilled = true → old = some e → (e.state = .holdWaiting ∨ e.state = .holdOnShelf) → e.holdCard = r.card → entry = none) ∧
      ((r.flags.holdFilled = false ∨ old = none ∨ ∃ e, old = some e ∧ (e.holdCard ≠ r.card ∨ e.state ≠ .holdWaiting ∧ e.state ≠ .holdOnShelf)) →
        after = t)) ∧
    (r.kind = .returned → onlyItem ∧ (old = none → after = t) ∧
      ∀ e, old = some e →
        (r.flags.found = true → e.state = .missing → entry = none) ∧
        (r.flags.exceptionCleared = true → e.state = .onLoanElsewhere → entry = none) ∧
        (r.flags.holdTrapped = true → e.state = .holdWaiting →
          entry = some { e with state := .holdOnShelf, holdExpiry := some (r.aux0 * 256 + r.aux1) }) ∧
        (¬(r.flags.found = true ∧ e.state = .missing) → ¬(r.flags.exceptionCleared = true ∧ e.state = .onLoanElsewhere) →
          ¬(r.flags.holdTrapped = true ∧ e.state = .holdWaiting) → after = t)) ∧
    (r.kind = .tablePatch → ∀ p, patchOf r = some p → after = t.patch p) ∧
    (r.kind ≠ .loan → r.kind ≠ .renew → r.kind ≠ .returned → r.kind ≠ .tablePatch → after = t)) ∧
  (∀ (t : TableSet) (card : Nat) (op : BorrowerOp), (∀ e, op = .insert e → e.card = card) →
    let after := t.patch (.borrower card op)
    let old := t.borrower? card
    after = { t with borrowers := after.borrowers } ∧ (∀ other, other ≠ card → after.borrower? other = t.borrower? other) ∧
    after.borrower? card = match op with
      | .setFlags m => old.map fun b => { b with
          flags := { adminBlock := b.flags.adminBlock || m.adminBlock, overdueBlock := b.flags.overdueBlock || m.overdueBlock,
                     lost := b.flags.lost || m.lost } }
      | .clearFlags m => old.map fun b => { b with
          flags := { adminBlock := b.flags.adminBlock && !m.adminBlock, overdueBlock := b.flags.overdueBlock && !m.overdueBlock,
                     lost := b.flags.lost && !m.lost } }
      | .setFines n => old.map fun b => { b with fines := n }
      | .setExpiry day => old.map fun b => { b with expiry := day }
      | .insert e => some e
      | .delete => none) ∧
  (∀ (t : TableSet) (item : Nat) (op : ItemOp), (∀ e, op = .insert e → e.item = item) →
    let after := t.patch (.item item op)
    after = { t with exceptions := after.exceptions } ∧ (∀ other, other ≠ item → after.exception? other = t.exception? other) ∧
    after.exception? item = match op with
      | .insert e => some e
      | .delete => none
      | .setState st card expiry => (t.exception? item).map fun e => { e with state := st, holdCard := card, holdExpiry := expiry })

/-- The beginning and the end of a page's erase (R140): the page at the front of the queue is named by the marker and ERASING; at the end its
slots are blank, every other slot is as it was, the page is ERASED and the marker none. In phase 1 the erase that recovery redoes ends in the
same way, and is remembered for the erase mark (R143, R154); that it may end before recovery does is the model's form (log 8). -/
def Obligations.EraseBlanksOnePage : Prop :=
  ∀ (s : State) (p : Nat), s.life = .on → p < 128 →
    (∀ rest, s.phase ≠ .recovery → s.journal.eraseMarker = none → s.journal.eraseQueue = p :: rest →
      exec .eraseStart s
        = .next (settle s { s with
            journal := { s.journal with
              eraseMarker := some p, eraseQueue := rest, pages := s.journal.pages.setIfInBounds p .erasing } })) ∧
    (s.journal.eraseMarker = some p →
      ∃ t, exec .eraseComplete s = .next t ∧ t.journal.eraseMarker = none ∧ t.journal.page p = .erased
        ∧ (∀ n, n / 32 = p → findSlot t.journal.slots n = none)
        ∧ (∀ n, n / 32 ≠ p → findSlot t.journal.slots n = findSlot s.journal.slots n)
        ∧ (∀ q, q ≠ p → t.journal.page q = s.journal.page q)
        ∧ t.journal.released = s.journal.released ∧ t.journal.lastComplete = s.journal.lastComplete
        ∧ t.journal.requests = s.journal.requests ∧ t.journal.writer = s.journal.writer
        ∧ t.journal.reErased = (s.journal.reErased || decide (s.phase = .recovery)))

/-- The released-through sequence R does not decrease, whatever the command and the state (R139). -/
def Obligations.ReleasedNeverDecreases : Prop :=
  ∀ (c : Instr) (s t : State), exec c s = .next t → s.journal.released ≤ t.journal.released

/-! ### The clock -/

/-- An edge of the time base (R75 to R77, R80): one second on, with the carries; at the end of the range the clock halts and is unset; a
HALTED clock stays. It ends a time-base loss, and is counted for a CLOCK_SET record being written. 3 s without one is a loss. -/
def Obligations.TimeBaseCounts : Prop :=
  ∀ s : State, s.life ≠ .off →
    let c := s.clock
    let request := c.request.map fun q => match q.phase with
      | .writing day minute second edges => { q with phase := .writing day minute second (edges + 1) }
      | .awaitingTurn => q
    let after := fun k : Clock => Host.Outcome.next (φ := Fault) (ρ := Refusal)
      (settle s { s with clock := { k with lost := false, request := request } })
    let result := exec .timebaseEdge s
    (c.halted = true → result = after c) ∧
    (c.halted = false → c.second < 59 → result = after { c with second := c.second + 1 }) ∧
    (c.halted = false → c.second = 59 → c.minute < 1439 → result = after { c with second := 0, minute := c.minute + 1 }) ∧
    (c.halted = false → c.second = 59 → c.minute = 1439 → c.day < 36524 →
      result = after { c with second := 0, minute := 0, day := c.day + 1 }) ∧
    (c.halted = false → c.second = 59 → c.minute = 1439 → c.day = 36524 → result = after { c with halted := true, isSet := false }) ∧
    exec .timebaseLoss s = .next (settle s { s with clock := { c with lost := true } })

/-! ### The printer -/

/-- The paper-out, maintenance and ready inputs; after a change of paper-out or ready the port tests again for its waiting byte: begun, at the
printer rate in force, when paper is present and ready asserted, and otherwise a PRINTING port pauses (R20, R161, R163, R165). A byte of the
current slip accepted (R163, R164): the print position goes up by 1 and the port tests for the next byte; after the last one the slip leaves
the queue as the last printed slip, and the port becomes HELD from STOPPING, IDLE with nothing queued, and otherwise renders the next slip. A
stall that has run its time is shown (R166). That the byte of an aborted slip ends on the line before the next slip's first byte is tested for
is the model's choice (log 32). -/
def Obligations.PrinterTestsItsInputs : Prop :=
  ((∀ (s : State) (out : Bool), s.running = true →
    let moved := { s with pins := { s.pins with paperOut := out }, levels := { s.levels with paperOut := out } }
    exec (.paperOutChange out) s = .next (settle s { moved with slips := s.slips.test s.config.printerRate out s.ready })) ∧
  (∀ (s : State) (asserted : Bool), s.running = true →
    exec (.maintenanceChange asserted) s
      = .next (settle s { s with
          pins := { s.pins with maintenance := asserted }, levels := { s.levels with maintenance := asserted } })) ∧
  (∀ (s : State) (ready : Bool), s.running = true →
    exec (.printerReadyChange ready) s
      = .next (settle s { s with ready := ready, slips := s.slips.test s.config.printerRate s.levels.paperOut ready })) ∧
  (∀ (u : SlipUnit) (rate : Nat) (paperOut ready : Bool),
    u.port.hasCurrent = true → u.line = .mark → u.position < u.buffer.length →
    (paperOut = false ∧ ready = true →
      u.test rate paperOut ready
        = { u with
            line := .sending (u.buffer.getD u.position 0) rate true, port := if u.port = .paused then .printing else u.port }) ∧
    (¬(paperOut = false ∧ ready = true) →
      u.test rate paperOut ready = { u with port := if u.port = .printing then .paused else u.port }))) ∧
  (∀ s : State, s.running = true →
    let u := s.slips
    let on := fun v : SlipUnit => Host.Outcome.next (φ := Fault) (ρ := Refusal) (settle s { s with slips := v })
    let accepted := { u with line := .mark, stalled := false }
    let tested := fun v : SlipUnit => on (v.test s.config.printerRate s.levels.paperOut s.ready)
    (∀ b rate, u.line = .sending b rate true →
      (u.position + 1 < u.buffer.length →
        exec .printerByteAccepted s = tested { accepted with position := u.position + 1 }) ∧
      (u.buffer.length ≤ u.position + 1 → ∀ slip rest, u.queue = slip :: rest →
        let gone := { accepted with queue := rest, lastPrinted := some slip, buffer := [], position := 0 }
        (u.port = .stopping → exec .printerByteAccepted s = on { gone with port := .held }) ∧
        (u.port ≠ .stopping → rest = [] → exec .printerByteAccepted s = on { gone with port := .idle }) ∧
        (u.port ≠ .stopping → ∀ next more, rest = next :: more →
          exec .printerByteAccepted s
            = tested { gone with port := .printing, buffer := render s.config next }))) ∧
    (∀ b rate, u.line = .sending b rate false → exec .printerByteAccepted s = tested accepted) ∧
    (u.port.hasCurrent = true → u.line = .mark → u.position < u.buffer.length → s.ready = false →
      exec .printerStallExpiry s = on { u with stalled := true }))

/-- Printer Control (R167 to R170): each action answered OK, with its change of the port and the queue. That a byte in flight at an Abort ends
before the next byte is tested for is the model's choice (log 32). -/
def Obligations.PrinterControlActs : Prop :=
  ∀ s : State, s.serves 1 = true →
    let u := s.slips
    let ok := fun v : SlipUnit => Host.Outcome.next (φ := Fault) (ρ := Refusal) (answered s { s with slips := v } 0x93 [0])
    let tested := fun v : SlipUnit => ok (v.test s.config.printerRate s.levels.paperOut s.ready)
    (u.port = .printing ∨ u.port = .paused → exec .printerControlStop s = ok { u with port := .stopping }) ∧
    (u.port = .idle → exec .printerControlStop s = ok { u with port := .held }) ∧
    (u.port = .held → u.queue = [] → exec .printerControlResume s = ok { u with port := .idle, buffer := [], position := 0 }) ∧
    (∀ slip rest, u.port = .held → u.queue = slip :: rest →
      exec .printerControlResume s
        = tested { u with port := .printing, buffer := render s.config slip, position := 0 }) ∧
    (u.port = .stopping → exec .printerControlResume s = ok { u with port := if u.line = .mark then .paused else .printing }) ∧
    (u.port = .printing ∨ u.port = .paused ∨ u.port = .stopping →
      exec .printerControlAbort s
        = ok { u with
            queue := u.queue.tail, buffer := [], position := 0, port := .held, stalled := false,
            line := match u.line with | .sending b rate _ => .sending b rate false | .mark => .mark }) ∧
    (u.port = .idle ∨ u.port = .held → exec .printerControlAbort s = ok { u with port := .held }) ∧
    (∀ slip, u.lastPrinted = some slip → u.queue.length < 4 →
      (u.port ≠ .idle → exec .printerControlReprint s = ok { u with queue := u.queue ++ [{ slip with copy := true }] }) ∧
      (u.port = .idle → u.queue = [] →
        exec .printerControlReprint s
          = tested { u with
              queue := [{ slip with copy := true }], port := .printing, buffer := render s.config { slip with copy := true },
              position := 0 }))

/-- No rendering is longer than 1294 bytes, which the print buffer of 1847 bytes holds whole (R159). -/
def Obligations.RenderingFitsBuffer : Prop :=
  ∀ (c : ConfigRecord) (slip : Slip), c.InRange →
    (match slip.body with
      | .loan entries => entries.length ≤ 24 ∧ ∀ g ∈ entries, g.item ≤ maxIdentity
      | .hold item _ => item ≤ maxIdentity) →
    (render c slip).length ≤ 1294

/-! ### The link -/

/-- The receiver's table (R173), at a part that runs and has not taken a Restart. A character with a framing error discards the frame without a
count. The gap timer, the end of WAIT_MARK and a break (R173, R174). -/
def Obligations.LinkReceiverFollowsTable : Prop :=
  (∀ (s : State) (b : Byte), s.running = true → s.link.shut = false →
    let l := s.link
    let on := fun k : Link => Host.Outcome.next (φ := Fault) (ρ := Refusal) (settle s { s with link := k })
    let dropped := { l with length := 0, type := 0, payload := [], crc := 0, crcHigh := 0 }
    let result := exec (.linkCharacter b true) s
    (exec (.linkCharacter b false) s = on { dropped with receiver := .waitMark }) ∧
    (l.receiver = .hunt → b = 0xA5 → result = on { dropped with receiver := .length, crc := 0xFFFF }) ∧
    (l.receiver = .hunt → b ≠ 0xA5 → result = on l) ∧
    (l.receiver = .length → b.toNat ≤ 240 → result = on { l with receiver := .type, length := b.toNat, crc := crcByte l.crc b }) ∧
    (l.receiver = .length → 240 < b.toNat →
      result = .next (settle s (State.countLinkError { s with link := { dropped with receiver := .hunt } }))) ∧
    (l.receiver = .type →
      result = on { l with
        receiver := if l.length = 0 then .crcHigh else .payload, type := b.toNat, crc := crcByte l.crc b }) ∧
    (l.receiver = .payload →
      result = on { l with
        receiver := if l.payload.length + 1 < l.length then .payload else .crcHigh, payload := l.payload ++ [b],
        crc := crcByte l.crc b }) ∧
    (l.receiver = .crcHigh → result = on { l with receiver := .crcLow, crcHigh := b.toNat }) ∧
    (l.receiver = .crcLow → l.crcHigh * 256 + b.toNat ≠ l.crc →
      result = .next (settle s (State.countLinkError { s with link := { dropped with receiver := .hunt } }))) ∧
    (l.receiver = .crcLow → l.crcHigh * 256 + b.toNat = l.crc →
      result = .next (settle s
        (State.takeFrame { s with link := { dropped with receiver := .hunt } } l.type (parseRequest l.type l.payload))))) ∧
  (∀ s : State, s.running = true →
    let l := s.link
    let dropped := { l with length := 0, type := 0, payload := [], crc := 0, crcHigh := 0 }
    (l.receiver ≠ .hunt → l.receiver ≠ .waitMark →
      exec .linkGapTimeout s = .next (settle s { s with link := { dropped with receiver := .hunt } })) ∧
    (l.receiver = .waitMark → exec .linkWaitMarkEnd s = .next (settle s { s with link := { l with receiver := .hunt } })) ∧
    (exec .linkBreak s = .next (settle s { s with link := { dropped with receiver := .waitMark, access := 0 } })))

/-- The transmitter (R172, R176, R177, R182): what has waited longest begins to be sent, a notice with the condition set and last complete
sequence of that moment; at a frame's end the transmitter is idle, a Configure's rate applies once its store has completed, and after a
Restart response nothing more is sent: what waits is lost, and the part restarts as soon as no nonvolatile operation is in progress. That a
response leaves the queue at its first byte is the model's reading (log 11), the state in which a Restart waits the model's (log 8). -/
def Obligations.TransmitterSendsInOrder : Prop :=
  ∀ s : State, s.running = true →
    (s.life = .waitRestart → exec .transmitFrameStart s = .next s) ∧
    (∀ f rest, s.life ≠ .waitRestart → s.link.sending = none → s.link.tx = .response f :: rest →
      exec .transmitFrameStart s
        = .next (settle s { s with
            link := { s.link with tx := rest, sending := some { item := .response f, bytes := frameBytes f.type f.payload } } })) ∧
    (∀ rest, s.life ≠ .waitRestart → s.link.sending = none → s.link.tx = .notice :: rest →
      exec .transmitFrameStart s
        = .next (settle s { s with
            link := { s.link with
              tx := rest,
              sending := some
                { item := .notice,
                  bytes := frameBytes 0x70 (beBytes 4 s.activeMask ++ beBytes 4 s.journal.lastComplete) } } })) ∧
    (∀ bytes, s.link.sending = some { item := .notice, bytes := bytes } →
      exec .transmitFrameEnd s = .next (settle s { s with link := { s.link with sending := none } })) ∧
    (∀ f bytes, s.link.sending = some { item := .response f, bytes := bytes } →
      let writing := ∃ r owner, s.journal.writer = .writing r owner
      (f.tag = .plain → exec .transmitFrameEnd s = .next (settle s { s with link := { s.link with sending := none } })) ∧
      (f.tag = .restart → s.life = .on → ¬writing → s.journal.eraseMarker = none → s.configStore = none →
        exec .transmitFrameEnd s = .next (settle s (s.resetBlocks.startUp .restartRequest))) ∧
      (f.tag = .restart → s.life = .on → (writing ∨ s.journal.eraseMarker.isSome = true ∨ s.configStore.isSome = true) →
        exec .transmitFrameEnd s
          = .next (settle s { s with life := .waitRestart, link := { s.link with tx := [], sending := none } })) ∧
      (∀ rate, f.tag = .configure rate → s.configStore = none →
        exec .transmitFrameEnd s
          = .next (settle s { s with link := ({ s.link with sending := none } : Link).applyRate rate })))

/-- A frame sent whole to a receiver in HUNT arrives whole (R173, Table 13): after its last byte the frame is taken with the type and
payload it was formed of. -/
def Obligations.FrameArrivesWhole : Prop :=
  ∀ (s : State) (type : Byte) (payload : List Byte),
    s.running = true → s.link.shut = false → s.link.receiver = .hunt → payload.length ≤ 240 →
    s.receiveAll (frameBytes type.toNat payload)
      = State.takeFrame { s with link := { s.link with length := 0, type := 0, payload := [], crc := 0, crcHigh := 0 } } type.toNat
          (parseRequest type.toNat payload)

/-- Every request reads back from its payload (Table 14, Table 16): no field of any request is dropped. The one payload with two readings is
the empty Configure, which is the read. -/
def Obligations.RequestReadsBack : Prop :=
  ∀ r : Request, r ≠ .configure [] → parseRequest r.typeCode r.payload = .request r

/-- The checks on a taken frame (R175), shown on a frame of any type and payload: dropped at a full response queue with a count, dropped
from type 80h, UNKNOWN, STARTING, DENIED, and FORMAT for a length that fits no request. A frame so answered changes nothing else. -/
def Obligations.FrameChecksInOrder : Prop :=
  ∀ (s : State) (type : Byte) (payload : List Byte), s.life = .on → s.link.shut = false →
    let result := exec (.unknownRequest type payload) s
    let refused := fun status : Status => Host.Outcome.next (φ := Fault) (ρ := Refusal)
      (answered s s (type.toNat + 0x80) [byte status.code])
    (4 ≤ s.link.responses → result = .next (settle s s.countLinkError)) ∧
    (s.link.responses < 4 →
      (0x80 ≤ type.toNat → result = .next (settle s s)) ∧
      (type.toNat < 0x80 → requestLevel type.toNat = none → result = refused .unknown) ∧
      (∀ level, requestLevel type.toNat = some level →
        (s.phase ≠ .started → type ≠ 0x01 → type ≠ 0x02 → result = refused .starting) ∧
        ((s.phase = .started ∨ type = 0x01 ∨ type = 0x02) → s.link.access < level → result = refused .denied) ∧
        ((s.phase = .started ∨ type = 0x01 ∨ type = 0x02) → level ≤ s.link.access →
          parseRequest type.toNat payload = .misfit → result = refused .format)))

/-- Status Read (R152, R180, R192, Table 19): each section's fields stand at their offsets with the codes of Table 15, and with the clear mark the
held cause is cleared after it is reported; in phase 1 the Journal's figures are 0. The fields without a value are free, drawn by the model's
own count `draws` (log 24, log 25, log 42). That only a mark byte of 1 is the mark set, and that a section above 3 clears nothing, are
choices (log 14), and so are the order of the recovery marks (log 27) and the tail page of a full ring (log 20). It is served during start-up
too. Access and Leave (R178): the code decides the level, and Leave sets it to 0. -/
def Obligations.StatusAndAccess : Prop :=
  (∀ (s : State) (sect clear : Byte), s.life = .on → s.link.shut = false → s.link.responses < 4 →
    let result := exec (.statusRead sect clear) s
    let flag := fun b : Bool => if b then 1 else 0
    let answers := fun (length : Nat) (fields : List Byte → Prop) =>
      ∃ c : List Byte, c.length = length ∧ fields c ∧
        result = .next (answered s
          { s with draws := s.draws + 1, heldCause := if clear = 1 then none else s.heldCause } 0x81 (0 :: sect :: c))
    (sect = 0 → answers 17 fun c =>
      Spells c 0 1 (match s.heldCause with | none => 255 | some .powerOn => 0 | some .resetLine => 1 | some .restartRequest => 2) ∧
      Spells c 1 1 (match s.phase with | .recovery => 1 | .replay => 3 | .started => 0) ∧
      Spells c 2 1 s.link.access ∧ Spells c 3 4 s.activeMask ∧ Spells c 7 2 s.link.errors ∧
      Spells c 9 2 (if s.phase = .recovery then 0 else s.engine.unrecorded) ∧
      Spells c 11 2 s.clock.day ∧ Spells c 13 2 s.clock.minute ∧ Spells c 15 1 s.clock.second ∧
      Spells c 16 1 (flag s.clock.isSet + 2 * flag s.clock.halted + 4 * flag s.clock.request.isSome)) ∧
    (sect = 1 → answers 123 fun c =>
      (∀ i : Station,
        let x := s.sessions[i]
        let ch := s.channels[i]
        let at_ := 28 * i.val
        Spells c at_ 1 s.config.stations[i].mode.code ∧ Spells c (at_ + 1) 1 (s.mode i).code ∧
        Spells c (at_ + 2) 1 (match s.levels.selector[i] with | .loan => 0 | .returns => 1) ∧
        Spells c (at_ + 3) 1 (match x.state with | .idle => 0 | .open_ => 1 | .closing => 2) ∧
        Spells c (at_ + 4) 6 x.card ∧ Spells c (at_ + 10) 1 (flag x.window.isSome) ∧ Spells c (at_ + 11) 1 ch.fifo.length ∧
        Spells c (at_ + 12) 1 (flag ch.hold) ∧ Spells c (at_ + 13) 1 ch.queue.length ∧ Spells c (at_ + 14) 1 ch.errors ∧
        Spells c (at_ + 15) 1 (flag ch.overrun) ∧
        (s.engine.last[i] = none → Spells c (at_ + 16) 12 0) ∧
        (∀ r, s.engine.last[i] = some r →
          Spells c (at_ + 16) 1 r.kind.code ∧ Spells c (at_ + 17) 1 ((r.reason.map Reason.code).getD 0) ∧
          Spells c (at_ + 18) 6 r.ident ∧ Spells c (at_ + 24) 4 r.sequence)) ∧
      Spells c 112 1 s.slips.queue.length ∧
      (∀ k, k < 4 → Spells c (113 + k) 1 (match s.slips.queue[k]? with
        | some { body := .loan _, station := i, .. } => 16 + i.val
        | some { body := .hold _ _, station := i, .. } => 32 + i.val
        | none => (Config.emptyPlaceStation s.draws k).toNat)) ∧
      Spells c 117 1 s.slips.port.code ∧ Spells c 118 2 s.slips.position ∧ Spells c 120 1 (flag s.ready) ∧
      Spells c 121 1 (flag s.levels.paperOut) ∧ Spells c 122 1 (flag s.slips.lastPrinted.isSome)) ∧
    (sect = 2 → answers 112 fun c =>
      let t := s.tables
      let failure := t.commit.failure
      Spells c 0 1 t.live.code ∧ Spells c 1 1 (flag t.valid) ∧ Spells c 2 4 t.basis ∧ Spells c 6 1 t.commit.state.code ∧
      Spells c 7 4 t.commit.basis ∧ Spells c 11 1 (match failure with | some (n, _) => n.index.val | none => 255) ∧
      Spells c 12 1 (match failure with | some (_, st) => st.code | none => 0) ∧ Spells c 13 1 (flag t.patch.isSome) ∧
      Spells c 14 2 s.loans.length ∧
      (∀ n : TableId,
        let b := t.standbyOf n
        let at_ := 16 + 10 * n.index.val
        Spells c at_ 1 b.state.code ∧
        Spells c (at_ + 1) 2 (match t.loading n with | some l => l.count | none => (Config.absentCount s.draws n.index.val).toNat) ∧
        Spells c (at_ + 3) 2 (match t.loading n with | some l => l.pointer | none => (Config.absentPointer s.draws n.index.val).toNat) ∧
        Spells c (at_ + 5) 4 (match b.copyPoint with | some p => p | none => (Config.absentCopyPoint s.draws n.index.val).toNat) ∧
        Spells c (at_ + 9) 1 (match b.failure with | some st => st.code | none => 0)) ∧
      Spells c 96 1 t.protection.patchMask.toNat ∧ Spells c 97 1 t.protection.loadMask.toNat ∧ Spells c 98 6 t.protection.low ∧
      Spells c 104 6 t.protection.high ∧ Spells c 110 1 (flag t.protection.complement) ∧
      Spells c 111 1 (match t.protection.lock with | .opened => 0 | .lineGuarded => 1 | .powerLocked => 2 | .fixed => 3)) ∧
    (sect = 3 → answers 91 fun c =>
      let j := s.journal
      (s.phase = .recovery → Spells c 0 91 0) ∧
      (s.phase ≠ .recovery →
        Spells c 0 4 j.released ∧ Spells c 4 4 s.tables.basis ∧ Spells c 8 4 j.lastComplete ∧
        (j.lastComplete < 4294967295 → Spells c 12 4 (j.lastComplete + 1)) ∧ Spells c 16 2 j.used ∧ Spells c 18 2 (4096 - j.used) ∧
        Spells c 20 2 (j.lastComplete % 4096) ∧ Spells c 22 1 j.tailPage ∧ Spells c 23 1 j.eraseQueue.length ∧
        Spells c 24 1 (match j.eraseMarker with | some p => p | none => 255) ∧ Spells c 25 1 j.requests.length ∧
        Spells c 26 1 (flag j.tornMark + 2 * flag j.erasedAgainMark) ∧
        ∀ k, k < 64 → Spells c (27 + k) 1 (16 * (j.page (2 * k)).code + (j.page (2 * k + 1)).code))) ∧
    (3 < sect.toNat → result = .next (answered s s 0x81 [4]))) ∧
  ([Mode.loan, .returns, .mixed, .outOfService].map Mode.code = [0, 1, 2, 3] ∧
    [ResultKind.loan, .renew, .returned, .refused, .lostCard, .duplicate, .opened, .staffFound].map ResultKind.code
      = [1, 2, 3, 4, 5, 6, 7, 8] ∧
    [Reason.noBorrower, .unreadable, .badCheck, .noRecord, .cardInUse, .lostCard, .sessionFull, .tablesInvalid, .clockUnset, .journalFull,
      .localFull, .itemAlert, .expired, .fines, .limit, .renewLimit, .notForLoan, .onLoan, .held, .blocked, .notLoanable].map Reason.code
      = List.range' 1 21 ∧
    [Port.idle, .printing, .paused, .stopping, .held].map Port.code = [0, 1, 2, 3, 4] ∧
    [BankName.a, .b].map BankName.code = [0, 1] ∧
    [CommitState.idle, .validating, .replaying, .done, .failed].map CommitState.code = [0, 1, 2, 3, 4] ∧
    [StandbyState.empty, .loading, .copying, .complete, .failed].map StandbyState.code = [0, 1, 2, 3, 4] ∧
    [PageState.erased, .filling, .full, .released, .erasing].map PageState.code = [0, 1, 2, 3, 4]) ∧
  (∀ (s : State) (code : BitVec 32), s.life = .on → s.link.shut = false → s.link.responses < 4 →
    let level : Nat := if code = s.link.code2 then 2 else if code = s.link.code1 then 1 else 0
    exec (.access code) s = .next (answered s { s with link := { s.link with access := level } } 0x82 [0, byte level]) ∧
    (s.phase = .started → exec .leave s = .next (answered s { s with link := { s.link with access := 0 } } 0x83 [0])))

/-- Clock Set and Clock Adjust (R79): an accepted request is pending and asks for its turn; the others are answered BUSY, RANGE or STATE and
change nothing. At its turn (R80) SET records the request's time, ADJUST the old time moved and held to the range; the clock itself waits for
the completion. An adjustment that meets a clear set flag is abandoned without a record. -/
def Obligations.ClockRequestsAreChecked : Prop :=
  (∀ (s : State) (day minute : BitVec 16) (minutes : Byte),
    let pending := fun op : ClockOp => { s with
      clock := { s.clock with request := some { op := op, phase := .awaitingTurn } },
      journal := { s.journal with requests := s.journal.requests ++ [.clock] } }
    (s.serves 2 = true →
      let result := exec (.clockSet day minute) s
      (s.clock.request.isSome = true → result = .next (answered s s 0x84 [1])) ∧
      (s.clock.request = none → (36524 < day.toNat ∨ 1439 < minute.toNat) → result = .next (answered s s 0x84 [4])) ∧
      (s.clock.request = none → day.toNat ≤ 36524 → minute.toNat ≤ 1439 →
        result = .next (answered s (pending (.set day.toNat minute.toNat)) 0x84 [0]))) ∧
    (s.serves 1 = true →
      let result := exec (.clockAdjust minutes) s
      (s.clock.request.isSome = true → result = .next (answered s s 0x85 [1])) ∧
      (s.clock.request = none → (minutes.toInt < -15 ∨ 15 < minutes.toInt) → result = .next (answered s s 0x85 [4])) ∧
      (s.clock.request = none → -15 ≤ minutes.toInt → minutes.toInt ≤ 15 → s.clock.isSet = false →
        result = .next (answered s s 0x85 [7])) ∧
      (s.clock.request = none → -15 ≤ minutes.toInt → minutes.toInt ≤ 15 → s.clock.isSet = true →
        result = .next (answered s (pending (.adjust minutes.toInt)) 0x85 [0])))) ∧
  (∀ (s : State) (rest : List Requester), s.life = .on → s.journal.writer = .idle → s.journal.requests = .clock :: rest →
    s.journal.turnFor .returnClass = .recorded →
    let popped := { s.journal with requests := rest }
    let base : JournalRecord :=
      { sequence := s.journal.lastComplete + 1, day := if s.clock.isSet then s.clock.day else 65535,
        minute := if s.clock.isSet then s.clock.minute else 0, kind := .clockSet, station := 15, reason := 0,
        flags := { undated := !s.clock.isSet }, card := s.clock.day, item := s.clock.minute, dueDay := 0, dueMinute := 0,
        aux0 := 0, aux1 := 0, aux2 := 0 }
    (∀ day minute, s.clock.request = some { op := .set day minute, phase := .awaitingTurn } →
      exec .journalTurn s
        = .next (settle s { s with
            clock := { s.clock with request := some { op := .set day minute, phase := .writing day minute 0 0 } },
            journal := { popped with writer := .writing { base with dueDay := day, dueMinute := minute } .clock } })) ∧
    (∀ minutes, s.clock.request = some { op := .adjust minutes, phase := .awaitingTurn } →
      (s.clock.isSet = false →
        exec .journalTurn s = .next (settle s { s with clock := { s.clock with request := none }, journal := popped })) ∧
      (s.clock.isSet = true → ∀ moved : Int, moved = (s.clock.day * 1440 + s.clock.minute : Nat) + minutes →
        let held : Nat := if moved < 0 then 0 else min moved.toNat (36524 * 1440 + 1439)
        exec .journalTurn s
          = .next (settle s { s with
              clock := { s.clock with
                request := some { op := .adjust minutes, phase := .writing (held / 1440) (held % 1440) s.clock.second 0 } },
              journal := { popped with
                writer := .writing
                  { base with
                    dueDay := held / 1440, dueMinute := held % 1440, aux0 := 1, aux1 := twosOf 8 minutes,
                    flags := { base.flags with dateSaturated := decide (moved < 0 ∨ (36524 * 1440 + 1439 : Nat) < moved) } }
                  .clock } }))))

/-- A change of a station's effective mode (R25, R27): on entering OUT_OF_SERVICE the window closes and the pattern ends; an OPEN session closes
with CLOSED, or has its close pending while a scan of it is at the engine; waiting scans of an OUT_OF_SERVICE station are discarded, unless
its session is CLOSING; and the hold line is tested. A change that leaves the effective mode does nothing. The order of the close and the
discard is the model's reading (log 19). Station Control (R26): set mode writes the configured mode, with that effect on the session; close
session closes an OPEN session, pending while a scan of the station is at the engine, and is answered STATE otherwise; a station above 3 and
a mode above 3 are answered RANGE. That close session does not look at the mode byte is the model's choice (log 13). -/
def Obligations.StationControlActs : Prop :=
  (∀ (s : State) (i : Station) (before : Mode),
    let out := decide (s.mode i = .outOfService)
    let entered :=
      if out then
        { s with
          sessions := s.sessions.set i { s.sessions[i] with window := none },
          channels := s.channels.set i { s.channels[i] with pattern := none } }
      else s
    let closed :=
      if s.sessions[i].state ≠ .open_ then entered
      else if s.inFlight i then { entered with sessions := entered.sessions.set i { entered.sessions[i] with closePending := true } }
      else entered.beginClose i (some .closed)
    let ch := closed.channels[i]
    let left := { ch with queue := if out ∧ closed.sessions[i].state ≠ SessionState.closing then [] else ch.queue }
    (s.mode i = before → s.modeChanged i before = s) ∧
    (s.mode i ≠ before → s.modeChanged i before = { closed with channels := closed.channels.set i (left.retest out) })) ∧
  (∀ (s : State) (i : Station) (mode : Byte), s.serves 1 = true →
    let named : Byte := byte i.val
    (∀ m, Mode.ofCode mode.toNat = some m →
      let set := { s with config := { s.config with stations := s.config.stations.set i { s.config.stations[i] with mode := m } } }
      exec (.stationControlSetMode named mode) s = .next (answered s (set.modeChanged i (s.mode i)) 0x86 [0])) ∧
    (3 < mode.toNat → exec (.stationControlSetMode named mode) s = .next (answered s s 0x86 [4])) ∧
    (s.sessions[i].state = .open_ → s.inFlight i = false →
      exec (.stationControlCloseSession named mode) s = .next (answered s (s.beginClose i (some .closed)) 0x86 [0])) ∧
    (s.sessions[i].state = .open_ → s.inFlight i = true →
      exec (.stationControlCloseSession named mode) s
        = .next (answered s { s with sessions := s.sessions.set i { s.sessions[i] with closePending := true } } 0x86 [0])) ∧
    (s.sessions[i].state ≠ .open_ → exec (.stationControlCloseSession named mode) s = .next (answered s s 0x86 [7])) ∧
    (∀ station : Byte, 3 < station.toNat →
      exec (.stationControlSetMode station mode) s = .next (answered s s 0x86 [4]) ∧
      exec (.stationControlCloseSession station mode) s = .next (answered s s 0x86 [4])))

/-- Configure (R184): a record in range begins its store, whose completion puts the whole record in force; an empty payload reads the record
as stored. At the completion each station whose line settings change loses its character, FIFO and partial symbol (R1), and then each whose
effective mode changes meets that change (R24, R25, StationControlActs); the order of the stations is the model's choice (log 34). A record
that leaves every station's group as it was touches no channel and no session. -/
def Obligations.ConfigureStoresRecord : Prop :=
  ∀ s : State,
    (s.serves 2 = true → ∀ bytes record, s.configStore = none → bytes.length = 162 → ConfigRecord.ofBytes bytes = some record →
      exec (.configure bytes) s
        = .next (settle s
            (State.send { s with configStore := some record } { type := 0x87, payload := [0], tag := .configure record.linkRate }))) ∧
    (s.serves 2 = true → exec .configureRead s = .next (answered s s 0x87 (0 :: s.config.bytes))) ∧
    (s.life = .on → ∀ record, s.configStore = some record →
      let stored := { s with config := record, configStore := none }
      let lineChanged := fun (u : State) (i : Station) =>
        let old := s.config.stations[i]
        let new := record.stations[i]
        if old.rate = new.rate ∧ old.dataBits = new.dataBits ∧ old.parity = new.parity then u
        else u.onChannel i fun ch =>
          { ch with
            receiver := .waitMark, holding := none, fifo := [], assembler := .empty, damage := false, afterTerminator := false,
            buffer := [] }
      let station := fun (u : State) (i : Station) => (lineChanged u i).modeChanged i (s.mode i)
      let done := station (station (station (station stored 0) 1) 2) 3
      exec .configureStoreComplete s
        = .next (settle s { done with
            link := if done.link.rateReady then done.link.applyRate record.linkRate else done.link })) ∧
    (s.life = .on → ∀ record, s.configStore = some record → record.stations = s.config.stations →
      exec .configureStoreComplete s
        = .next (settle s { s with
            config := record, configStore := none,
            link := if s.link.rateReady then s.link.applyRate record.linkRate else s.link }))

/-- The load of a table (R104 to R108): Begin Table empties and opens it, Load Entries writes the entries that pass in order, End Table makes it
COMPLETE with its CRC, Abort Load discards it. Each entry of a Load Entries frame is checked for count, fields and key, in that order, and the
first that fails ends the frame with the entries before it written; one that passes is written after the last, and the pointer, the running CRC
and the previous key move on (R106). -/
def Obligations.TableLoads : Prop :=
  (∀ (s : State) (n : TableId), s.serves 2 = true → s.tables.committing = false → (s.tables.standbyOf n).state ≠ .copying →
    let named : Byte := byte n.index.val
    let store := fun (tables : TableSet) => s.tables.setBank s.tables.live.other { s.tables.standbyBank with tables := tables }
    (∀ count, s.tables.protection.loadMask.getLsbD n.index.val = false → s.tables.filling = false → countAllowed n count.toNat = true →
      exec (.beginTable named count) s
        = .next (answered s { s with
            tables := { (store (s.tables.standbyBank.tables.take TableSet.empty n)).setStandby n
                          { state := .loading, copyPoint := none, failure := none } with
                        load := some { table := n, count := count.toNat, pointer := 0, crc := 0xFFFF, previousKey := none } } }
          0x88 [0])) ∧
    (∀ c count entries, s.tables.loading n = some c → s.loadFits n.index.val count entries = true →
      let r := loadEntries count c s.tables.standbyBank.tables entries
      count < 256 →
      (r.2.2 = none →
        exec (.loadEntries named (byte count) entries) s
          = .next (answered s { s with tables := { store r.2.1 with load := some r.1 } } 0x89 (0 :: beBytes 2 r.1.pointer))) ∧
      (∀ failure, r.2.2 = some failure →
        exec (.loadEntries named (byte count) entries) s
          = .next (answered s { s with
              tables := { (store r.2.1).setStandby n { state := .failed, copyPoint := none, failure := some failure } with
                          load := none } }
            0x89 (byte failure.code :: beBytes 2 r.1.pointer)))) ∧
    (∀ c crc, s.tables.loading n = some c → c.pointer = c.count → crc.toNat = c.crc →
      exec (.endTable named crc) s
        = .next (answered s { s with
            tables := { (s.tables.setBank s.tables.live.other
                          { s.tables.standbyBank with crcs := s.tables.standbyBank.crcs.set n.index c.crc }).setStandby n
                          { state := .complete, copyPoint := none, failure := none } with load := none } }
          0x8A [0])) ∧
    (exec (.abortLoad named) s
        = .next (answered s { s with
            tables := { (store (s.tables.standbyBank.tables.take TableSet.empty n)).setStandby n
                          { state := .empty, copyPoint := none, failure := none } with
                        load := if (s.tables.loading n).isSome then none else s.tables.load } }
          0x8B [0]))) ∧
  (∀ (k : Nat) (c : LoadContext) (t : TableSet) (bytes : List Byte),
    let size := entrySize c.table (c.pointer == 0)
    let entry := decodeEntry c.table (c.pointer == 0) (bytes.take size)
    (c.count ≤ c.pointer → loadEntries (k + 1) c t bytes = (c, t, some .range)) ∧
    (c.pointer < c.count → entry = none → loadEntries (k + 1) c t bytes = (c, t, some .range)) ∧
    (∀ e, c.pointer < c.count → entry = some e →
      (∀ key previous, e.key = some key → c.previousKey = some previous → key ≤ previous →
        loadEntries (k + 1) c t bytes = (c, t, some .order)) ∧
      ((∀ key previous, e.key = some key → c.previousKey = some previous → previous < key) →
        loadEntries (k + 1) c t bytes
          = loadEntries k
              { c with
                pointer := c.pointer + 1, crc := crcOver c.crc e.bytes, previousKey := if e.key.isSome then e.key else c.previousKey }
              (t.append e) (bytes.drop size))))

/-- Copy Table and Commit Set accepted, and the end of a copy and of a validation (R109 to R114). A copied table takes the content and stored
CRC of the acceptance; a set that fails validation makes the failing table and the commit FAILED and latches COMMIT_FAILED, and one that
passes asks for its record. -/
def Obligations.CopiesAndCommits : Prop :=
  ∀ s : State,
    (∀ n : TableId, s.serves 2 = true → s.tables.committing = false → s.tables.patch = none → s.tables.valid = true →
      s.tables.filling = false →
      let live := s.tables.bank s.tables.live
      exec (.copyTable (byte n.index.val)) s
        = .next (answered s { s with
            tables := { (s.tables.setBank s.tables.live.other
                          { s.tables.standbyBank with tables := s.tables.standbyBank.tables.take TableSet.empty n }).setStandby n
                          { state := .copying, copyPoint := some s.journal.lastComplete, failure := none } with
                        copy := some { table := n, source := live.tables, crc := live.crcs[n.index] } } }
          0x8C (0 :: beBytes 4 s.journal.lastComplete))) ∧
    (∀ c, s.running = true → s.tables.copy = some c →
      exec .copyEnd s
        = .next (settle s { s with
            tables := { (s.tables.setBank s.tables.live.other
                          { tables := s.tables.standbyBank.tables.take c.source c.table,
                            crcs := s.tables.standbyBank.crcs.set c.table.index c.crc }).setStandby c.table
                          { s.tables.standbyOf c.table with state := .complete } with copy := none } })) ∧
    (∀ basis : BitVec 32, s.serves 2 = true → s.tables.committing = false → s.tables.patch = none →
      (∀ n, (s.tables.standbyOf n).state = .complete) → s.tables.basis ≤ basis.toNat → basis.toNat ≤ s.journal.lastComplete →
      (∀ n ∈ [TableId.borrower, .itemException], ∀ p, (s.tables.standbyOf n).copyPoint = some p → basis.toNat ≤ p) →
      exec (.commitSet basis) s
        = .next (answered s { s with
            tables := { s.tables with
              commit := { state := .validating, basis := basis.toNat, validated := false, failure := none } } }
          0x8D [0])) ∧
    (s.running = true → s.tables.commit.state = .validating → s.tables.commit.validated = false →
      (∀ n failure, validateTable s.tables.standbyBank.tables s.tables.standbyBank.crcs[n.index] n = some failure →
        (∀ m : TableId, m.index < n.index → validateTable s.tables.standbyBank.tables s.tables.standbyBank.crcs[m.index] m = none) →
        exec .validationEnd s
          = .next (settle s { s with
              tables := { s.tables.setStandby n { state := .failed, copyPoint := none, failure := some failure } with
                          commit := { s.tables.commit with state := .failed, failure := some (n, failure) } },
              latched := { s.latched with commitFailed := true } })) ∧
      ((∀ n : TableId, validateTable s.tables.standbyBank.tables s.tables.standbyBank.crcs[n.index] n = none) →
        exec .validationEnd s
          = .next (settle s { s with
              tables := { s.tables with commit := { s.tables.commit with validated := true } },
              journal := { s.journal with requests := s.journal.requests ++ [.commit] } })))

/-- A patch that passes every check of R118 becomes pending and asks for its turn; the tables wait for its record (R116 to R119). An absent hold
expiry of a SET_STATE is 0 (R185); that 0 in HOLD_ON_SHELF is day 0 is the model's choice (log 17). -/
def Obligations.PatchesBecomePending : Prop :=
  ∀ (s : State) (key : BitVec 48), s.serves 1 = true → s.tables.committing = false → s.tables.patch = none → s.tables.valid = true →
    1 ≤ key.toNat → key.toNat ≤ 99999999999999 →
    let pending := fun (p : Patch) => { s with
      tables := { s.tables with patch := some p }, journal := { s.journal with requests := s.journal.requests ++ [.patch] } }
    ((s.tables.standbyOf .borrower).state ≠ .copying →
      let ok := fun op : BorrowerOp => Host.Outcome.next (φ := Fault) (ρ := Refusal) (answered s (pending (.borrower key.toNat op)) 0x8E [0])
      let allowed := fun op : BorrowerOp => s.tables.protection.forbids (.borrower key.toNat op) = false
      (∀ mask : Byte, mask.toNat < 8 → allowed (.setFlags (BorrowerFlags.ofCode mask.toNat)) →
        exec (.patchBorrowerSetFlags key mask) s = ok (.setFlags (BorrowerFlags.ofCode mask.toNat))) ∧
      (∀ mask : Byte, mask.toNat < 8 → allowed (.clearFlags (BorrowerFlags.ofCode mask.toNat)) →
        exec (.patchBorrowerClearFlags key mask) s = ok (.clearFlags (BorrowerFlags.ofCode mask.toNat))) ∧
      (∀ fines : BitVec 16, allowed (.setFines fines.toNat) → exec (.patchBorrowerSetFines key fines) s = ok (.setFines fines.toNat)) ∧
      (∀ day : BitVec 16, day.toNat ≤ 36524 → allowed (.setExpiry day.toNat) →
        exec (.patchBorrowerSetExpiry key day) s = ok (.setExpiry day.toNat)) ∧
      (∀ e : Borrower, e.card = key.toNat → (Entry.borrower e).inRange = true → allowed (.insert e) →
        s.tables.liveTables.fullFor (.borrower key.toNat (.insert e)) = false →
        exec (.patchBorrowerInsert key (Entry.borrower e).bytes) s = ok (.insert e)) ∧
      (allowed .delete → exec (.patchBorrowerDelete key) s = ok .delete)) ∧
    ((s.tables.standbyOf .itemException).state ≠ .copying → s.tables.protection.patchMask.getLsbD 4 = false →
      let ok := fun op : ItemOp => Host.Outcome.next (φ := Fault) (ρ := Refusal) (answered s (pending (.item key.toNat op)) 0x8F [0])
      (∀ e : ItemException, e.item = key.toNat → (Entry.exception e).inRange = true →
        presenceRule e.state e.holdCard e.holdExpiry = true → s.tables.liveTables.fullFor (.item key.toNat (.insert e)) = false →
        exec (.patchItemInsert key (Entry.exception e).bytes) s = ok (.insert e)) ∧
      (exec (.patchItemDelete key) s = ok .delete) ∧
      (∀ (st : ExceptionState) (card : BitVec 48) (expiry : Option (BitVec 16)), card.toNat ≤ 99999999999999 →
        (∀ d ∈ expiry, d.toNat ≤ 36524) → presenceRule st card.toNat (expiry.map (·.toNat)) = true →
        exec (.patchItemSetState key (byte st.code) card (expiry.getD 0)) s
          = ok (.setState st card.toNat (expiry.map (·.toNat)))))

/-- Read Entry (R123, R181): an entry of a live table by key or index, with a staff card's index, and the Local Loan List entry of an item; an
absent mark where there is none. -/
def Obligations.ReadsReportEntries : Prop :=
  ∀ (s : State) (key : BitVec 48) (table : Byte), s.serves 1 = true →
    let t := s.tables.liveTables
    let live := fun n : TableId => exec (.readEntryLiveTable (byte n.index.val) key) s
    let ok := fun payload : List Byte => Host.Outcome.next (φ := Fault) (ρ := Refusal) (answered s s 0x90 payload)
    (s.tables.commit.state ≠ .replaying → s.tables.valid = true →
      (∀ b, t.borrower? key.toNat = some b → live .borrower = ok (0 :: 1 :: (Entry.borrower b).bytes)) ∧
      (t.borrower? key.toNat = none → live .borrower = ok [0, 0]) ∧
      (∀ e, t.exception? key.toNat = some e → live .itemException = ok (0 :: 1 :: (Entry.exception e).bytes)) ∧
      (t.exception? key.toNat = none → live .itemException = ok [0, 0]) ∧
      (∀ index e, t.staff? key.toNat = some (index, e) → live .staff = ok (0 :: 1 :: (Entry.staff e).bytes ++ [byte index])) ∧
      (t.staff? key.toNat = none → live .staff = ok [0, 0]) ∧
      (∀ n ∈ [TableId.classRange, .category, .policy, .calendar, .symbolFormat],
        (∀ h : key.toNat < (t.entries n).length, live n = ok (0 :: 1 :: ((t.entries n)[key.toNat]).bytes)) ∧
        ((t.entries n).length ≤ key.toNat → live n = ok [4]))) ∧
    (s.journal.writer ≠ .replaying →
      (∀ e, findLoan s.loans key.toNat = some e → exec (.readEntryLocalLoanList table key) s = ok (0 :: 1 :: e.bytes)) ∧
      (findLoan s.loans key.toNat = none → exec (.readEntryLocalLoanList table key) s = ok [0, 0]))

/-- Journal Read and Journal Release (R147 to R151). A read changes nothing but the response, and returns the first complete records, up to 6, of
the sequences from the greater of S and R + 1 to the last complete one, in ascending order. A release raises R to the smallest of what is
asked, the live basis and the last complete sequence, when that is greater than R, and tests the pages (R139, R150): every FULL page whose
records are all released and which does not hold the last complete one becomes RELEASED and joins the erase queue in ring order from the tail
page, and free rises by 32 for each. The tail page is the oldest page that is not ERASED (R131); that a head page which still waits for its
erase is the tail page itself is the model's reading (log 20). -/
def Obligations.JournalReadsAndReleases : Prop :=
  (∀ (s : State) (n : BitVec 32),
    (s.serves 1 = true →
      let start := max n.toNat (s.journal.released + 1)
      ∃ records : List JournalRecord,
        records.Pairwise (fun a b => a.sequence < b.sequence) ∧
        (∀ r, r ∈ records ↔
          s.journal.Holds r ∧ start ≤ r.sequence ∧ r.sequence ≤ s.journal.lastComplete ∧ r.sequence < start + 6) ∧
        exec (.journalRead n) s
          = .next (answered s s 0x91
              ([0, byte records.length] ++ beBytes 4 start ++ beBytes 4 s.journal.lastComplete ++ records.flatMap JournalRecord.bytes))) ∧
    (s.serves 2 = true →
      let effective := min n.toNat (min s.tables.basis s.journal.lastComplete)
      (effective ≤ s.journal.released →
        exec (.journalRelease n) s
          = .next (answered s s 0x92
              ([0] ++ beBytes 4 effective ++ beBytes 4 s.journal.released ++ [if effective < n.toNat then 1 else 0]))) ∧
      (s.journal.released < effective →
        exec (.journalRelease n) s
          = .next (answered s { s with journal := { s.journal with released := effective }.releasePages } 0x92
              ([0] ++ beBytes 4 effective ++ beBytes 4 effective ++ [if effective < n.toNat then 1 else 0]))))) ∧
  (∀ j : Journal, slotsWf j.slots = true →
    let after := j.releasePages
    let passes := fun p : Nat => j.page p = .full ∧ (∀ r, j.Holds r → pageOf r.sequence = p → r.sequence ≤ j.released)
      ∧ (j.lastComplete = 0 ∨ pageOf j.lastComplete ≠ p)
    after = { j with pages := after.pages, eraseQueue := after.eraseQueue } ∧
    (∀ p, p < 128 → (passes p → after.page p = .released) ∧ (¬passes p → after.page p = j.page p)) ∧
    ∃ joined : List Nat,
      after.eraseQueue = j.eraseQueue ++ joined ∧ (∀ p, p ∈ joined ↔ p < 128 ∧ passes p) ∧
      joined.Pairwise (fun p q => (p + 128 - j.tailPage) % 128 < (q + 128 - j.tailPage) % 128) ∧
      ((∀ p ∈ joined, ∀ n, n / 32 = p → findSlot j.slots n ≠ none) → after.free = j.free + 32 * joined.length)) ∧
  (∀ j : Journal,
    let head := j.lastComplete % 4096 / 32
    let writable := j.page head = .erased ∨ j.page head = .filling
    (¬writable → j.tailPage = head) ∧
    (writable → (∀ p, p < 128 → p ≠ head → j.page p = .erased) → j.tailPage = head) ∧
    (writable → ∀ k, 1 ≤ k → k < 128 → j.page ((head + k) % 128) ≠ .erased →
      (∀ m, 1 ≤ m → m < k → j.page ((head + m) % 128) = .erased) → j.tailPage = (head + k) % 128))

/-- Clear Conditions (R189): a mask with a bit from 18 to 30 is answered RANGE; every other clears each latched condition it names with its
counter, and under bit 31 the unrecorded-refusal counter, and nothing else. -/
def Obligations.ClearConditionsClears : Prop :=
  ∀ (s : State) (mask : BitVec 32), s.serves 1 = true →
    ((∃ k, 18 ≤ k ∧ k ≤ 30 ∧ mask.getLsbD k = true) → exec (.clearConditions mask) s = .next (answered s s 0x94 [4])) ∧
    ((∀ k, 18 ≤ k → k ≤ 30 → mask.getLsbD k = false) →
      exec (.clearConditions mask) s
        = .next (answered s { s with
            latched :=
              { slipDropped := s.latched.slipDropped && !mask.getLsbD 9, lostCardPresented := s.latched.lostCardPresented && !mask.getLsbD 10,
                itemAlert := s.latched.itemAlert && !mask.getLsbD 11, commitFailed := s.latched.commitFailed && !mask.getLsbD 12,
                linkErrors := s.latched.linkErrors && !mask.getLsbD 13,
                wandFault := Vector.ofFn fun i : Fin 4 => s.latched.wandFault[i] && !mask.getLsbD (14 + i.val) },
            channels := Vector.ofFn fun i : Fin 4 =>
              if mask.getLsbD (14 + i.val) then { s.channels[i] with errors := 0, overrun := false } else s.channels[i],
            link := if mask.getLsbD 13 then { s.link with errors := 0 } else s.link,
            engine := if mask.getLsbD 31 then { s.engine with unrecorded := 0 } else s.engine }
          0x94 [0]))

/-- Set Protection, Set Codes and Restart (R122, R179, R182): the stored lock mode decides first whether Set Protection is obeyed, and an obeyed
one stores the settings whole; both codes are stored together; a Restart shuts the receiver and waits for its response. What is stored of a
mask bit or a complement byte that has no meaning, and that a bound may be any 6-byte number, is the model's choice (log 15). -/
def Obligations.SettingsRequestsStore : Prop :=
  ∀ s : State, s.serves 2 = true →
    (∀ (patchMask loadMask : Byte) (low high : BitVec 48) (complement lock : Byte),
      let request := exec (.setProtection patchMask loadMask low high complement lock) s
      let obeyed := s.tables.protection.lock = .opened ∨ s.tables.protection.lock = .lineGuarded ∧ s.levels.maintenance = true
      (¬obeyed → request = .next (answered s s 0x95 [3])) ∧
      (obeyed → (high.toNat < low.toNat ∨ ¬(low = 0 ↔ high = 0) ∨ 3 < lock.toNat) → request = .next (answered s s 0x95 [4])) ∧
      (∀ m, obeyed → LockMode.ofCode lock.toNat = some m → low.toNat ≤ high.toNat → (low = 0 ↔ high = 0) →
        request = .next (answered s { s with
          tables := { s.tables with
            protection := { patchMask := patchMask &&& 0x1F, loadMask := loadMask, low := low.toNat, high := high.toNat,
                            complement := complement == 1, lock := m } } } 0x95 [0]))) ∧
    (∀ level1 level2, exec (.setCodes level1 level2) s
      = .next (answered s { s with link := { s.link with code1 := level1, code2 := level2 } } 0x96 [0])) ∧
    (exec .setCodesEmpty s = .next (answered s s 0x96 (0 :: List.replicate 8 0))) ∧
    (exec .restart s
      = .next (settle s
          (State.send { s with link := { s.link with shut := true } } { type := 0x97, payload := [0], tag := .restart })))

/-! ### Conditions -/

/-- DESK_ATTN is asserted exactly while the part is not held in reset and some active condition is named in the desk mask (R190). A notice
begins exactly where a condition of the notice mask has become active at a running part, and at most one waits (R177); that none begins while
the part is off or in reset is the model's choice (log 12). Each level condition is active exactly while its cause holds, and each latched one
while its mark is set (R132, R187). The Journal's conditions in phase 1 and in reset, and those of a part without supply, are the model's
reading (log 35, log 36). -/
def Obligations.DeskAttnAndNotices : Prop :=
  (∀ s : State, s.deskAttn = true ↔ s.running = true ∧ ∃ c, s.active c = true ∧ s.config.deskMask.getLsbD c.bit = true) ∧
  (∀ s t : State,
    let begins := t.running = true ∧ ∃ c, t.active c = true ∧ s.active c = false ∧ t.config.noticeMask.getLsbD c.bit = true
    (begins → t.link.noticePresent = false → settle s t = { t with link := { t.link with tx := t.link.tx ++ [.notice] } }) ∧
    (begins → t.link.noticePresent = true → settle s t = t) ∧
    (¬begins → settle s t = t)) ∧
  (∀ s : State,
    let derived := (s.life = .on ∨ s.life = .waitReset ∨ s.life = .waitRestart) ∧ s.phase ≠ .recovery
    (s.life = .off → ∀ c, s.active c = false) ∧
    (s.life ≠ .off →
      (s.active .clockUnset = true ↔ s.clock.isSet = false) ∧
      (s.active .timebaseLost = true ↔ s.clock.lost = true) ∧
      (s.active .tablesInvalid = true ↔ s.tables.valid = false) ∧
      (s.active .journalHigh = true ↔ derived ∧ s.config.highWater ≤ s.journal.used) ∧
      (s.active .journalReserve = true ↔ derived ∧ s.journal.free ≤ 64) ∧
      (s.active .journalStall = true ↔ derived ∧ (s.journal.free = 0 ∨ 4294967295 ≤ s.journal.lastComplete)) ∧
      (s.active .localListFull = true ↔ 1024 ≤ s.loans.length) ∧
      (s.active .paperOut = true ↔ s.levels.paperOut = true) ∧
      (s.active .printerStalled = true ↔ s.slips.stalled = true) ∧
      (s.active .slipDropped = true ↔ s.latched.slipDropped = true) ∧
      (s.active .lostCardPresented = true ↔ s.latched.lostCardPresented = true) ∧
      (s.active .itemAlert = true ↔ s.latched.itemAlert = true) ∧
      (s.active .commitFailed = true ↔ s.latched.commitFailed = true) ∧
      (s.active .linkErrors = true ↔ s.latched.linkErrors = true) ∧
      (∀ i : Station, s.active (.wandFault i) = true ↔ s.latched.wandFault[i] = true)))

/-! ### Power and reset -/

/-- The three ways of starting again (R81, R122, R145, R153, R182, R191, R192): power-on, the reset line's assertion, entry and release, and a
Restart after its response, and what each keeps of the clock, the conditions, the unrecorded-refusal counter and the nonvolatile state. A
reset during recovery lets its repair complete (R145). A power loss (R143, R179, R184): the part stops; of the store, only the head slot can
have changed, and only while a record was being written; the configuration record is the old one or the new one, whole; every other piece of
nonvolatile state is kept. The model's choices are the input levels taken from the pins (log 6), the states in which the part waits for its
reset, and the operands of a power loss (log 7, log 8), POWER_ON whatever the reset line's level (log 10), the torn slot of a reset in
phase 1 (log 41), and a reset line that comes while a Restart waits (log 46). -/
def Obligations.StartsKeepWhatTheySay : Prop :=
  (∀ s : State,
    let writing := ∃ r owner, s.journal.writer = .writing r owner
    let idle := ¬writing ∧ s.journal.eraseMarker = none ∧ s.configStore = none
    let blocksReset := fun t : State =>
      t.loans = [] ∧ (∀ i : Station, t.sessions[i] = Session.afterReset) ∧ (∀ i : Station, t.channels[i] = Channel.afterReset)
        ∧ t.slips = SlipUnit.afterReset ∧ t.lastGranted = 3 ∧ t.engine.phase = .free ∧ t.engine.decision = none
        ∧ t.tables.commit = Commit.idle ∧ t.tables.patch = none ∧ t.journal.requests = [] ∧ t.journal.writer = .idle
        ∧ t.link.errors = 0 ∧ t.link.responses = 0 ∧ t.link.sending = none ∧ t.link.rate = s.config.linkRate ∧ t.link.shut = false
        ∧ t.link.access = (if s.link.code2 = 0xFFFFFFFF then 2 else if s.link.code1 = 0xFFFFFFFF then 1 else 0)
    let nonvolatileKept := fun t : State =>
      t.config = s.config ∧ t.journal.released = s.journal.released ∧ t.journal.eraseMarker = s.journal.eraseMarker
        ∧ t.tables.bankA = s.tables.bankA ∧ t.tables.bankB = s.tables.bankB ∧ t.tables.live = s.tables.live
        ∧ t.tables.basis = s.tables.basis ∧ t.tables.valid = s.tables.valid
        ∧ t.link.code1 = s.link.code1 ∧ t.link.code2 = s.link.code2
    let keptByReset := fun t : State =>
      t.clock = { s.clock with request := none } ∧ t.latched = s.latched ∧ t.engine.unrecorded = s.engine.unrecorded
        ∧ t.tables.protection = s.tables.protection
    let starts := fun (t : State) (cause : Cause) =>
      t.life = .on ∧ t.phase = .recovery ∧ t.heldCause = some cause ∧ t.startCause = cause ∧ t.levels = s.pins
    let sound := fun e : Nat × Slot => match e.2 with
      | .record r => decide (1 ≤ r.sequence ∧ (r.sequence - 1) % 4096 = e.1)
      | .torn => false
    (s.life = .off →
      ∃ t, exec .powerOn s = .next t ∧ starts t .powerOn ∧ blocksReset t ∧ nonvolatileKept t ∧ t.journal.slots = s.journal.slots
        ∧ t.clock = Clock.afterPowerOn ∧ t.latched = Latched.none ∧ t.engine.unrecorded = 0
        ∧ t.tables.protection = { s.tables.protection with
            lock := if s.tables.protection.lock = .powerLocked then .opened else s.tables.protection.lock }) ∧
    (s.life = .on ∨ s.life = .waitReset ∨ s.life = .waitRestart →
      exec .resetLineAssert s = .next (settle s { s with resetLine := true, life := .waitReset })) ∧
    (s.life = .waitReset → idle →
      ∃ t, exec .resetEntered s = .next t ∧ blocksReset t ∧ nonvolatileKept t ∧ keptByReset t
        ∧ t.journal.slots = (if s.phase = .recovery then s.journal.slots.filter sound else s.journal.slots)
        ∧ (s.resetLine = true → t.life = .inReset) ∧ (s.resetLine = false → starts t .resetLine)) ∧
    (s.life = .waitReset → ¬idle → exec .resetEntered s = .next s) ∧
    (s.life = .inReset →
      exec .resetLineRelease s
        = .next (settle s { s with
            resetLine := false, life := .on, phase := .recovery, startCause := .resetLine, heldCause := some .resetLine,
            levels := s.pins })) ∧
    (s.life = .on → idle → ∀ f bytes, s.link.sending = some { item := .response f, bytes := bytes } → f.tag = .restart →
      ∃ t, exec .transmitFrameEnd s = .next t ∧ starts t .restartRequest ∧ blocksReset t ∧ nonvolatileKept t ∧ keptByReset t
        ∧ t.journal.slots = s.journal.slots)) ∧
  (∀ (s : State) (cut : SlotCut) (stored : Bool), s.life ≠ .off →
    ∃ t, exec (.powerLoss cut stored) s = .next t ∧ t.life = .off ∧ t.tables = s.tables ∧ t.journal.released = s.journal.released
      ∧ t.journal.eraseMarker = s.journal.eraseMarker ∧ t.link.code1 = s.link.code1 ∧ t.link.code2 = s.link.code2
      ∧ (t.config = s.config ∨ s.configStore = some t.config)
      ∧ (∀ n, n ≠ s.journal.headSlot → findSlot t.journal.slots n = findSlot s.journal.slots n)
      ∧ ((∀ r owner, s.journal.writer ≠ .writing r owner) → t.journal.slots = s.journal.slots))

/-- The end of recovery (R126, R143, R144, R193). The page the erase marker names is blank and the marker none; of the other slots, each keeps
the record that belongs to it, and a torn one is blank. The last complete sequence is the highest in the store, and each page takes its state
by its contents; the RELEASED pages are the erase queue, in ring order from the tail page. The torn mark says that a slot was returned to
blank, the other that a page was erased again, now or earlier in this phase 1 (R154). The newest TABLE_COMMIT record completes a flip that
disagrees with it, and the live set is valid only while every stored CRC agrees. The replay of start-up begins. That the figures are 0 until
then is the model's choice (log 26), and the erase that ends before recovery does the model's form (log 8). -/
def Obligations.RecoveryDerivesTheJournal : Prop :=
  ∀ s : State, s.life = .on → s.phase = .recovery → slotsWf s.journal.slots = true →
    let marked := fun n : Nat => s.journal.eraseMarker = some (n / 32)
    let belongs := fun (n : Nat) (r : JournalRecord) => 1 ≤ r.sequence ∧ (r.sequence - 1) % 4096 = n
    ∃ t, exec .recoveryComplete s = .next t ∧ t.phase = .replay ∧ t.journal.writer = .replaying ∧ t.loans = []
      ∧ t.journal.eraseMarker = none ∧ t.journal.reErased = false ∧ t.journal.requests = [] ∧ t.journal.released = s.journal.released
      ∧ (∀ n r, findSlot t.journal.slots n = some (.record r)
          ↔ findSlot s.journal.slots n = some (.record r) ∧ belongs n r ∧ ¬marked n)
      ∧ (∀ n, findSlot t.journal.slots n ≠ some .torn)
      ∧ (∀ n r, findSlot t.journal.slots n = some (.record r) → r.sequence ≤ t.journal.lastComplete)
      ∧ (t.journal.lastComplete = 0 ∨ ∃ n r, findSlot t.journal.slots n = some (.record r) ∧ r.sequence = t.journal.lastComplete)
      ∧ (∀ p, p < 128 →
          let records := (List.range 32).filter fun k => (findSlot t.journal.slots (32 * p + k)).isSome
          let holdsLast := t.journal.lastComplete ≠ 0 ∧ pageOf t.journal.lastComplete = p
          let released := ∀ r, t.journal.Holds r → pageOf r.sequence = p → r.sequence ≤ s.journal.released
          let filling := records.length < 32 ∧ holdsLast
          (records.length = 0 → t.journal.page p = .erased) ∧
          (records.length ≠ 0 →
            (filling → t.journal.page p = .filling) ∧
            (¬filling → released ∧ ¬holdsLast → t.journal.page p = .released) ∧
            (¬filling → ¬(released ∧ ¬holdsLast) → t.journal.page p = .full)))
      ∧ (∀ p, p ∈ t.journal.eraseQueue ↔ p < 128 ∧ t.journal.page p = .released)
      ∧ t.journal.eraseQueue.Pairwise (fun p q => (p + 128 - t.journal.tailPage) % 128 < (q + 128 - t.journal.tailPage) % 128)
      ∧ (t.journal.tornMark = true ↔
          ∃ n, ¬marked n ∧ findSlot s.journal.slots n ≠ none ∧ findSlot t.journal.slots n = none)
      ∧ (t.journal.erasedAgainMark = true ↔ s.journal.eraseMarker.isSome = true ∨ s.journal.reErased = true)
      ∧ (let newest := fun r : JournalRecord => t.journal.Holds r ∧ r.kind = .tableCommit
            ∧ ∀ q, t.journal.Holds q → q.kind = .tableCommit → q.sequence ≤ r.sequence
          let agrees := fun r : JournalRecord => s.tables.live = BankName.ofCode r.aux0 ∧ s.tables.basis = r.item
          let intact := ∀ n : TableId, (t.tables.bank t.tables.live).tables.crc n = (t.tables.bank t.tables.live).crcs[n.index]
          (∀ r, newest r → ¬agrees r →
            t.tables.live = BankName.ofCode r.aux0 ∧ t.tables.basis = r.item ∧ (∀ n, t.tables.standbyOf n = Standby.empty)
              ∧ (t.tables.valid = true ↔ intact)) ∧
          ((∀ r, newest r → agrees r) →
            t.tables.live = s.tables.live ∧ t.tables.basis = s.tables.basis ∧ t.tables.standby = s.tables.standby
              ∧ (t.tables.valid = true ↔ s.tables.valid = true ∧ intact)))
      ∧ t.tables.bankA = s.tables.bankA ∧ t.tables.bankB = s.tables.bankB ∧ t.clock = s.clock ∧ t.channels = s.channels
      ∧ t.config = s.config ∧ t.sessions = s.sessions ∧ t.latched = s.latched

/-! ### Layouts -/

/-- Every entry in range reads back from its load layout (Table 18): a header as the Calendar's entry at pointer 0, a closed day as a later one. A
patch record carries its patch whole (R119, Table 16): read back from the record, every patch a request can carry is what it was. What the
record holds in the fields an operation does not use is the model's reading (log 18). -/
def Obligations.EntryReadsBack : Prop :=
  (∀ (e : Entry) (first : Bool),
    e.inRange = true → (∀ h, e = .header h → first = true) → (∀ d, e = .closedDay d → first = false) →
    decodeEntry
        (match e with
          | .borrower _ => .borrower | .exception _ => .itemException | .range _ => .classRange | .category _ => .category
          | .policy _ => .policy | .header _ | .closedDay _ => .calendar | .staff _ => .staff | .symbol _ => .symbolFormat)
        first e.bytes
      = some e) ∧
  (∀ (blank : JournalRecord) (p : Patch),
    (match p with
      | .borrower card (.setFines n) => 1 ≤ card ∧ n ≤ 65535
      | .borrower card (.insert e) => e.card = card ∧ (Entry.borrower e).inRange = true
      | .borrower _ (.setExpiry _) | .borrower _ (.setFlags _) | .borrower _ (.clearFlags _) | .borrower _ .delete => True
      | .item key (.insert e) =>
        e.item = key ∧ (Entry.exception e).inRange = true ∧ presenceRule e.state e.holdCard e.holdExpiry = true
      | .item _ (.setState st card expiry) => presenceRule st card expiry = true
      | .item _ .delete => True) →
    blank.item = 0 → patchOf (p.record blank) = some p)

/-- Every configuration record in range reads back from its 162 bytes (Table 17). -/
def Obligations.ConfigReadsBack : Prop :=
  ∀ c : ConfigRecord, c.InRange → c.bytes.length = 162 ∧ ConfigRecord.ofBytes c.bytes = some c

/-! ### Invariants that every step keeps -/

/-- Every step keeps the wand channels within Table 2. -/
def Obligations.StepsKeepChannels : Prop := ∀ s t : State, s.ChannelsWf → step s = .next t → t.ChannelsWf

/-- Every step keeps the Slip Unit within Table 11. -/
def Obligations.StepsKeepSlipUnit : Prop := ∀ s t : State, s.slips.Wf → step s = .next t → t.slips.Wf

/-- Every step keeps the service link within Table 12. -/
def Obligations.StepsKeepLink : Prop := ∀ s t : State, s.link.Wf → step s = .next t → t.link.Wf

/-- Every step keeps the clock, the protection settings and the configuration record in their ranges. -/
def Obligations.StepsKeepSettings : Prop := ∀ s t : State, s.SettingsWf → step s = .next t → t.SettingsWf

/-- Every step keeps the canonical form of the slot store and of the Local Loan List. -/
def Obligations.StepsKeepStore : Prop := ∀ s t : State, s.StoreWf → step s = .next t → t.StoreWf

/-- The invariants hold at reset. -/
def Obligations.InvariantsHoldAtReset : Prop :=
  State.reset.ChannelsWf ∧ State.reset.slips.Wf ∧ State.reset.link.Wf ∧ State.reset.SettingsWf ∧ State.reset.StoreWf
end

