-- ==== Sys2Proof/Laws/State.lean ====
section
/-! SUPPORT. One lemma for each field and each update of the state: what the update leaves in it. -/

namespace Sys2Proof.Machine

variable (s : State)

/-! ### A session changed (R25 to R46). -/

@[simp] theorem State.onSession_pending (i : Station) (f : Session → Session) : (s.onSession i f).pending = s.pending := rfl
@[simp] theorem State.onSession_draws (i : Station) (f : Session → Session) : (s.onSession i f).draws = s.draws := rfl
@[simp] theorem State.onSession_life (i : Station) (f : Session → Session) : (s.onSession i f).life = s.life := rfl
@[simp] theorem State.onSession_phase (i : Station) (f : Session → Session) : (s.onSession i f).phase = s.phase := rfl
@[simp] theorem State.onSession_startCause (i : Station) (f : Session → Session) : (s.onSession i f).startCause = s.startCause := rfl
@[simp] theorem State.onSession_heldCause (i : Station) (f : Session → Session) : (s.onSession i f).heldCause = s.heldCause := rfl
@[simp] theorem State.onSession_pins (i : Station) (f : Session → Session) : (s.onSession i f).pins = s.pins := rfl
@[simp] theorem State.onSession_ready (i : Station) (f : Session → Session) : (s.onSession i f).ready = s.ready := rfl
@[simp] theorem State.onSession_resetLine (i : Station) (f : Session → Session) : (s.onSession i f).resetLine = s.resetLine := rfl
@[simp] theorem State.onSession_levels (i : Station) (f : Session → Session) : (s.onSession i f).levels = s.levels := rfl
@[simp] theorem State.onSession_channels (i : Station) (f : Session → Session) : (s.onSession i f).channels = s.channels := rfl
@[simp] theorem State.onSession_sessions (i : Station) (f : Session → Session) : (s.onSession i f).sessions = s.sessions.set i (f s.sessions[i]) := rfl
@[simp] theorem State.onSession_lastGranted (i : Station) (f : Session → Session) : (s.onSession i f).lastGranted = s.lastGranted := rfl
@[simp] theorem State.onSession_engine (i : Station) (f : Session → Session) : (s.onSession i f).engine = s.engine := rfl
@[simp] theorem State.onSession_loans (i : Station) (f : Session → Session) : (s.onSession i f).loans = s.loans := rfl
@[simp] theorem State.onSession_tables (i : Station) (f : Session → Session) : (s.onSession i f).tables = s.tables := rfl
@[simp] theorem State.onSession_journal (i : Station) (f : Session → Session) : (s.onSession i f).journal = s.journal := rfl
@[simp] theorem State.onSession_clock (i : Station) (f : Session → Session) : (s.onSession i f).clock = s.clock := rfl
@[simp] theorem State.onSession_slips (i : Station) (f : Session → Session) : (s.onSession i f).slips = s.slips := rfl
@[simp] theorem State.onSession_link (i : Station) (f : Session → Session) : (s.onSession i f).link = s.link := rfl
@[simp] theorem State.onSession_config (i : Station) (f : Session → Session) : (s.onSession i f).config = s.config := rfl
@[simp] theorem State.onSession_configStore (i : Station) (f : Session → Session) : (s.onSession i f).configStore = s.configStore := rfl
@[simp] theorem State.onSession_latched (i : Station) (f : Session → Session) : (s.onSession i f).latched = s.latched := rfl

/-! ### A channel changed and its hold line tested (R5). -/

@[simp] theorem State.onChannel_pending (i : Station) (f : Channel → Channel) : (s.onChannel i f).pending = s.pending := rfl
@[simp] theorem State.onChannel_draws (i : Station) (f : Channel → Channel) : (s.onChannel i f).draws = s.draws := rfl
@[simp] theorem State.onChannel_life (i : Station) (f : Channel → Channel) : (s.onChannel i f).life = s.life := rfl
@[simp] theorem State.onChannel_phase (i : Station) (f : Channel → Channel) : (s.onChannel i f).phase = s.phase := rfl
@[simp] theorem State.onChannel_startCause (i : Station) (f : Channel → Channel) : (s.onChannel i f).startCause = s.startCause := rfl
@[simp] theorem State.onChannel_heldCause (i : Station) (f : Channel → Channel) : (s.onChannel i f).heldCause = s.heldCause := rfl
@[simp] theorem State.onChannel_pins (i : Station) (f : Channel → Channel) : (s.onChannel i f).pins = s.pins := rfl
@[simp] theorem State.onChannel_ready (i : Station) (f : Channel → Channel) : (s.onChannel i f).ready = s.ready := rfl
@[simp] theorem State.onChannel_resetLine (i : Station) (f : Channel → Channel) : (s.onChannel i f).resetLine = s.resetLine := rfl
@[simp] theorem State.onChannel_levels (i : Station) (f : Channel → Channel) : (s.onChannel i f).levels = s.levels := rfl
@[simp] theorem State.onChannel_channels (i : Station) (f : Channel → Channel) : (s.onChannel i f).channels = s.channels.set i ((f s.channels[i]).retest (s.outOfService i)) := rfl
@[simp] theorem State.onChannel_sessions (i : Station) (f : Channel → Channel) : (s.onChannel i f).sessions = s.sessions := rfl
@[simp] theorem State.onChannel_lastGranted (i : Station) (f : Channel → Channel) : (s.onChannel i f).lastGranted = s.lastGranted := rfl
@[simp] theorem State.onChannel_engine (i : Station) (f : Channel → Channel) : (s.onChannel i f).engine = s.engine := rfl
@[simp] theorem State.onChannel_loans (i : Station) (f : Channel → Channel) : (s.onChannel i f).loans = s.loans := rfl
@[simp] theorem State.onChannel_tables (i : Station) (f : Channel → Channel) : (s.onChannel i f).tables = s.tables := rfl
@[simp] theorem State.onChannel_journal (i : Station) (f : Channel → Channel) : (s.onChannel i f).journal = s.journal := rfl
@[simp] theorem State.onChannel_clock (i : Station) (f : Channel → Channel) : (s.onChannel i f).clock = s.clock := rfl
@[simp] theorem State.onChannel_slips (i : Station) (f : Channel → Channel) : (s.onChannel i f).slips = s.slips := rfl
@[simp] theorem State.onChannel_link (i : Station) (f : Channel → Channel) : (s.onChannel i f).link = s.link := rfl
@[simp] theorem State.onChannel_config (i : Station) (f : Channel → Channel) : (s.onChannel i f).config = s.config := rfl
@[simp] theorem State.onChannel_configStore (i : Station) (f : Channel → Channel) : (s.onChannel i f).configStore = s.configStore := rfl
@[simp] theorem State.onChannel_latched (i : Station) (f : Channel → Channel) : (s.onChannel i f).latched = s.latched := rfl

/-! ### A pattern ended (R22). -/

@[simp] theorem State.darken_pending (i : Station) : (s.darken i).pending = s.pending := rfl
@[simp] theorem State.darken_draws (i : Station) : (s.darken i).draws = s.draws := rfl
@[simp] theorem State.darken_life (i : Station) : (s.darken i).life = s.life := rfl
@[simp] theorem State.darken_phase (i : Station) : (s.darken i).phase = s.phase := rfl
@[simp] theorem State.darken_startCause (i : Station) : (s.darken i).startCause = s.startCause := rfl
@[simp] theorem State.darken_heldCause (i : Station) : (s.darken i).heldCause = s.heldCause := rfl
@[simp] theorem State.darken_pins (i : Station) : (s.darken i).pins = s.pins := rfl
@[simp] theorem State.darken_ready (i : Station) : (s.darken i).ready = s.ready := rfl
@[simp] theorem State.darken_resetLine (i : Station) : (s.darken i).resetLine = s.resetLine := rfl
@[simp] theorem State.darken_levels (i : Station) : (s.darken i).levels = s.levels := rfl
@[simp] theorem State.darken_channels (i : Station) : (s.darken i).channels = s.channels.set i { s.channels[i] with pattern := none } := rfl
@[simp] theorem State.darken_sessions (i : Station) : (s.darken i).sessions = s.sessions := rfl
@[simp] theorem State.darken_lastGranted (i : Station) : (s.darken i).lastGranted = s.lastGranted := rfl
@[simp] theorem State.darken_engine (i : Station) : (s.darken i).engine = s.engine := rfl
@[simp] theorem State.darken_loans (i : Station) : (s.darken i).loans = s.loans := rfl
@[simp] theorem State.darken_tables (i : Station) : (s.darken i).tables = s.tables := rfl
@[simp] theorem State.darken_journal (i : Station) : (s.darken i).journal = s.journal := rfl
@[simp] theorem State.darken_clock (i : Station) : (s.darken i).clock = s.clock := rfl
@[simp] theorem State.darken_slips (i : Station) : (s.darken i).slips = s.slips := rfl
@[simp] theorem State.darken_link (i : Station) : (s.darken i).link = s.link := rfl
@[simp] theorem State.darken_config (i : Station) : (s.darken i).config = s.config := rfl
@[simp] theorem State.darken_configStore (i : Station) : (s.darken i).configStore = s.configStore := rfl
@[simp] theorem State.darken_latched (i : Station) : (s.darken i).latched = s.latched := rfl

/-! ### A condition latched (R188). -/

@[simp] theorem State.latch_pending (c : Condition) : (s.latch c).pending = s.pending := rfl
@[simp] theorem State.latch_draws (c : Condition) : (s.latch c).draws = s.draws := rfl
@[simp] theorem State.latch_life (c : Condition) : (s.latch c).life = s.life := rfl
@[simp] theorem State.latch_phase (c : Condition) : (s.latch c).phase = s.phase := rfl
@[simp] theorem State.latch_startCause (c : Condition) : (s.latch c).startCause = s.startCause := rfl
@[simp] theorem State.latch_heldCause (c : Condition) : (s.latch c).heldCause = s.heldCause := rfl
@[simp] theorem State.latch_pins (c : Condition) : (s.latch c).pins = s.pins := rfl
@[simp] theorem State.latch_ready (c : Condition) : (s.latch c).ready = s.ready := rfl
@[simp] theorem State.latch_resetLine (c : Condition) : (s.latch c).resetLine = s.resetLine := rfl
@[simp] theorem State.latch_levels (c : Condition) : (s.latch c).levels = s.levels := rfl
@[simp] theorem State.latch_channels (c : Condition) : (s.latch c).channels = s.channels := rfl
@[simp] theorem State.latch_sessions (c : Condition) : (s.latch c).sessions = s.sessions := rfl
@[simp] theorem State.latch_lastGranted (c : Condition) : (s.latch c).lastGranted = s.lastGranted := rfl
@[simp] theorem State.latch_engine (c : Condition) : (s.latch c).engine = s.engine := rfl
@[simp] theorem State.latch_loans (c : Condition) : (s.latch c).loans = s.loans := rfl
@[simp] theorem State.latch_tables (c : Condition) : (s.latch c).tables = s.tables := rfl
@[simp] theorem State.latch_journal (c : Condition) : (s.latch c).journal = s.journal := rfl
@[simp] theorem State.latch_clock (c : Condition) : (s.latch c).clock = s.clock := rfl
@[simp] theorem State.latch_slips (c : Condition) : (s.latch c).slips = s.slips := rfl
@[simp] theorem State.latch_link (c : Condition) : (s.latch c).link = s.link := rfl
@[simp] theorem State.latch_config (c : Condition) : (s.latch c).config = s.config := rfl
@[simp] theorem State.latch_configStore (c : Condition) : (s.latch c).configStore = s.configStore := rfl
@[simp] theorem State.latch_latched (c : Condition) : (s.latch c).latched = s.latched.put true c := rfl

/-! ### A turn asked for (R133). -/

@[simp] theorem State.ask_pending (r : Requester) : (s.ask r).pending = s.pending := rfl
@[simp] theorem State.ask_draws (r : Requester) : (s.ask r).draws = s.draws := rfl
@[simp] theorem State.ask_life (r : Requester) : (s.ask r).life = s.life := rfl
@[simp] theorem State.ask_phase (r : Requester) : (s.ask r).phase = s.phase := rfl
@[simp] theorem State.ask_startCause (r : Requester) : (s.ask r).startCause = s.startCause := rfl
@[simp] theorem State.ask_heldCause (r : Requester) : (s.ask r).heldCause = s.heldCause := rfl
@[simp] theorem State.ask_pins (r : Requester) : (s.ask r).pins = s.pins := rfl
@[simp] theorem State.ask_ready (r : Requester) : (s.ask r).ready = s.ready := rfl
@[simp] theorem State.ask_resetLine (r : Requester) : (s.ask r).resetLine = s.resetLine := rfl
@[simp] theorem State.ask_levels (r : Requester) : (s.ask r).levels = s.levels := rfl
@[simp] theorem State.ask_channels (r : Requester) : (s.ask r).channels = s.channels := rfl
@[simp] theorem State.ask_sessions (r : Requester) : (s.ask r).sessions = s.sessions := rfl
@[simp] theorem State.ask_lastGranted (r : Requester) : (s.ask r).lastGranted = s.lastGranted := rfl
@[simp] theorem State.ask_engine (r : Requester) : (s.ask r).engine = s.engine := rfl
@[simp] theorem State.ask_loans (r : Requester) : (s.ask r).loans = s.loans := rfl
@[simp] theorem State.ask_tables (r : Requester) : (s.ask r).tables = s.tables := rfl
@[simp] theorem State.ask_journal (r : Requester) : (s.ask r).journal = { s.journal with requests := s.journal.requests ++ [r] } := rfl
@[simp] theorem State.ask_clock (r : Requester) : (s.ask r).clock = s.clock := rfl
@[simp] theorem State.ask_slips (r : Requester) : (s.ask r).slips = s.slips := rfl
@[simp] theorem State.ask_link (r : Requester) : (s.ask r).link = s.link := rfl
@[simp] theorem State.ask_config (r : Requester) : (s.ask r).config = s.config := rfl
@[simp] theorem State.ask_configStore (r : Requester) : (s.ask r).configStore = s.configStore := rfl
@[simp] theorem State.ask_latched (r : Requester) : (s.ask r).latched = s.latched := rfl

/-! ### A record being written (R136). -/

@[simp] theorem State.write_pending (r : JournalRecord) (o : Requester) : (s.write r o).pending = s.pending := rfl
@[simp] theorem State.write_draws (r : JournalRecord) (o : Requester) : (s.write r o).draws = s.draws := rfl
@[simp] theorem State.write_life (r : JournalRecord) (o : Requester) : (s.write r o).life = s.life := rfl
@[simp] theorem State.write_phase (r : JournalRecord) (o : Requester) : (s.write r o).phase = s.phase := rfl
@[simp] theorem State.write_startCause (r : JournalRecord) (o : Requester) : (s.write r o).startCause = s.startCause := rfl
@[simp] theorem State.write_heldCause (r : JournalRecord) (o : Requester) : (s.write r o).heldCause = s.heldCause := rfl
@[simp] theorem State.write_pins (r : JournalRecord) (o : Requester) : (s.write r o).pins = s.pins := rfl
@[simp] theorem State.write_ready (r : JournalRecord) (o : Requester) : (s.write r o).ready = s.ready := rfl
@[simp] theorem State.write_resetLine (r : JournalRecord) (o : Requester) : (s.write r o).resetLine = s.resetLine := rfl
@[simp] theorem State.write_levels (r : JournalRecord) (o : Requester) : (s.write r o).levels = s.levels := rfl
@[simp] theorem State.write_channels (r : JournalRecord) (o : Requester) : (s.write r o).channels = s.channels := rfl
@[simp] theorem State.write_sessions (r : JournalRecord) (o : Requester) : (s.write r o).sessions = s.sessions := rfl
@[simp] theorem State.write_lastGranted (r : JournalRecord) (o : Requester) : (s.write r o).lastGranted = s.lastGranted := rfl
@[simp] theorem State.write_engine (r : JournalRecord) (o : Requester) : (s.write r o).engine = s.engine := rfl
@[simp] theorem State.write_loans (r : JournalRecord) (o : Requester) : (s.write r o).loans = s.loans := rfl
@[simp] theorem State.write_tables (r : JournalRecord) (o : Requester) : (s.write r o).tables = s.tables := rfl
@[simp] theorem State.write_journal (r : JournalRecord) (o : Requester) : (s.write r o).journal = { s.journal with writer := .writing r o } := rfl
@[simp] theorem State.write_clock (r : JournalRecord) (o : Requester) : (s.write r o).clock = s.clock := rfl
@[simp] theorem State.write_slips (r : JournalRecord) (o : Requester) : (s.write r o).slips = s.slips := rfl
@[simp] theorem State.write_link (r : JournalRecord) (o : Requester) : (s.write r o).link = s.link := rfl
@[simp] theorem State.write_config (r : JournalRecord) (o : Requester) : (s.write r o).config = s.config := rfl
@[simp] theorem State.write_configStore (r : JournalRecord) (o : Requester) : (s.write r o).configStore = s.configStore := rfl
@[simp] theorem State.write_latched (r : JournalRecord) (o : Requester) : (s.write r o).latched = s.latched := rfl

/-! ### The head request gone (R133). -/

@[simp] theorem State.popRequest_pending : (s.popRequest).pending = s.pending := rfl
@[simp] theorem State.popRequest_draws : (s.popRequest).draws = s.draws := rfl
@[simp] theorem State.popRequest_life : (s.popRequest).life = s.life := rfl
@[simp] theorem State.popRequest_phase : (s.popRequest).phase = s.phase := rfl
@[simp] theorem State.popRequest_startCause : (s.popRequest).startCause = s.startCause := rfl
@[simp] theorem State.popRequest_heldCause : (s.popRequest).heldCause = s.heldCause := rfl
@[simp] theorem State.popRequest_pins : (s.popRequest).pins = s.pins := rfl
@[simp] theorem State.popRequest_ready : (s.popRequest).ready = s.ready := rfl
@[simp] theorem State.popRequest_resetLine : (s.popRequest).resetLine = s.resetLine := rfl
@[simp] theorem State.popRequest_levels : (s.popRequest).levels = s.levels := rfl
@[simp] theorem State.popRequest_channels : (s.popRequest).channels = s.channels := rfl
@[simp] theorem State.popRequest_sessions : (s.popRequest).sessions = s.sessions := rfl
@[simp] theorem State.popRequest_lastGranted : (s.popRequest).lastGranted = s.lastGranted := rfl
@[simp] theorem State.popRequest_engine : (s.popRequest).engine = s.engine := rfl
@[simp] theorem State.popRequest_loans : (s.popRequest).loans = s.loans := rfl
@[simp] theorem State.popRequest_tables : (s.popRequest).tables = s.tables := rfl
@[simp] theorem State.popRequest_journal : (s.popRequest).journal = { s.journal with requests := s.journal.requests.tail } := rfl
@[simp] theorem State.popRequest_clock : (s.popRequest).clock = s.clock := rfl
@[simp] theorem State.popRequest_slips : (s.popRequest).slips = s.slips := rfl
@[simp] theorem State.popRequest_link : (s.popRequest).link = s.link := rfl
@[simp] theorem State.popRequest_config : (s.popRequest).config = s.config := rfl
@[simp] theorem State.popRequest_configStore : (s.popRequest).configStore = s.configStore := rfl
@[simp] theorem State.popRequest_latched : (s.popRequest).latched = s.latched := rfl

/-! ### A response formed (R176). -/

@[simp] theorem State.send_pending (f : Frame) : (s.send f).pending = s.pending := rfl
@[simp] theorem State.send_draws (f : Frame) : (s.send f).draws = s.draws := rfl
@[simp] theorem State.send_life (f : Frame) : (s.send f).life = s.life := rfl
@[simp] theorem State.send_phase (f : Frame) : (s.send f).phase = s.phase := rfl
@[simp] theorem State.send_startCause (f : Frame) : (s.send f).startCause = s.startCause := rfl
@[simp] theorem State.send_heldCause (f : Frame) : (s.send f).heldCause = s.heldCause := rfl
@[simp] theorem State.send_pins (f : Frame) : (s.send f).pins = s.pins := rfl
@[simp] theorem State.send_ready (f : Frame) : (s.send f).ready = s.ready := rfl
@[simp] theorem State.send_resetLine (f : Frame) : (s.send f).resetLine = s.resetLine := rfl
@[simp] theorem State.send_levels (f : Frame) : (s.send f).levels = s.levels := rfl
@[simp] theorem State.send_channels (f : Frame) : (s.send f).channels = s.channels := rfl
@[simp] theorem State.send_sessions (f : Frame) : (s.send f).sessions = s.sessions := rfl
@[simp] theorem State.send_lastGranted (f : Frame) : (s.send f).lastGranted = s.lastGranted := rfl
@[simp] theorem State.send_engine (f : Frame) : (s.send f).engine = s.engine := rfl
@[simp] theorem State.send_loans (f : Frame) : (s.send f).loans = s.loans := rfl
@[simp] theorem State.send_tables (f : Frame) : (s.send f).tables = s.tables := rfl
@[simp] theorem State.send_journal (f : Frame) : (s.send f).journal = s.journal := rfl
@[simp] theorem State.send_clock (f : Frame) : (s.send f).clock = s.clock := rfl
@[simp] theorem State.send_slips (f : Frame) : (s.send f).slips = s.slips := rfl
@[simp] theorem State.send_link (f : Frame) : (s.send f).link = { s.link with tx := s.link.tx ++ [.response f] } := rfl
@[simp] theorem State.send_config (f : Frame) : (s.send f).config = s.config := rfl
@[simp] theorem State.send_configStore (f : Frame) : (s.send f).configStore = s.configStore := rfl
@[simp] theorem State.send_latched (f : Frame) : (s.send f).latched = s.latched := rfl

/-! ### A wand receiver's state (R2). -/

@[simp] theorem State.setReceiver_pending (i : Station) (r : Receiver) : (s.setReceiver i r).pending = s.pending := rfl
@[simp] theorem State.setReceiver_draws (i : Station) (r : Receiver) : (s.setReceiver i r).draws = s.draws := rfl
@[simp] theorem State.setReceiver_life (i : Station) (r : Receiver) : (s.setReceiver i r).life = s.life := rfl
@[simp] theorem State.setReceiver_phase (i : Station) (r : Receiver) : (s.setReceiver i r).phase = s.phase := rfl
@[simp] theorem State.setReceiver_startCause (i : Station) (r : Receiver) : (s.setReceiver i r).startCause = s.startCause := rfl
@[simp] theorem State.setReceiver_heldCause (i : Station) (r : Receiver) : (s.setReceiver i r).heldCause = s.heldCause := rfl
@[simp] theorem State.setReceiver_pins (i : Station) (r : Receiver) : (s.setReceiver i r).pins = s.pins := rfl
@[simp] theorem State.setReceiver_ready (i : Station) (r : Receiver) : (s.setReceiver i r).ready = s.ready := rfl
@[simp] theorem State.setReceiver_resetLine (i : Station) (r : Receiver) : (s.setReceiver i r).resetLine = s.resetLine := rfl
@[simp] theorem State.setReceiver_levels (i : Station) (r : Receiver) : (s.setReceiver i r).levels = s.levels := rfl
@[simp] theorem State.setReceiver_channels (i : Station) (r : Receiver) : (s.setReceiver i r).channels = s.channels.set i { s.channels[i] with receiver := r } := rfl
@[simp] theorem State.setReceiver_sessions (i : Station) (r : Receiver) : (s.setReceiver i r).sessions = s.sessions := rfl
@[simp] theorem State.setReceiver_lastGranted (i : Station) (r : Receiver) : (s.setReceiver i r).lastGranted = s.lastGranted := rfl
@[simp] theorem State.setReceiver_engine (i : Station) (r : Receiver) : (s.setReceiver i r).engine = s.engine := rfl
@[simp] theorem State.setReceiver_loans (i : Station) (r : Receiver) : (s.setReceiver i r).loans = s.loans := rfl
@[simp] theorem State.setReceiver_tables (i : Station) (r : Receiver) : (s.setReceiver i r).tables = s.tables := rfl
@[simp] theorem State.setReceiver_journal (i : Station) (r : Receiver) : (s.setReceiver i r).journal = s.journal := rfl
@[simp] theorem State.setReceiver_clock (i : Station) (r : Receiver) : (s.setReceiver i r).clock = s.clock := rfl
@[simp] theorem State.setReceiver_slips (i : Station) (r : Receiver) : (s.setReceiver i r).slips = s.slips := rfl
@[simp] theorem State.setReceiver_link (i : Station) (r : Receiver) : (s.setReceiver i r).link = s.link := rfl
@[simp] theorem State.setReceiver_config (i : Station) (r : Receiver) : (s.setReceiver i r).config = s.config := rfl
@[simp] theorem State.setReceiver_configStore (i : Station) (r : Receiver) : (s.setReceiver i r).configStore = s.configStore := rfl
@[simp] theorem State.setReceiver_latched (i : Station) (r : Receiver) : (s.setReceiver i r).latched = s.latched := rfl

/-! ### An outcome pattern (R22). -/

@[simp] theorem State.setPattern_pending (i : Station) (p : Option Pattern) : (s.setPattern i p).pending = s.pending := rfl
@[simp] theorem State.setPattern_draws (i : Station) (p : Option Pattern) : (s.setPattern i p).draws = s.draws := rfl
@[simp] theorem State.setPattern_life (i : Station) (p : Option Pattern) : (s.setPattern i p).life = s.life := rfl
@[simp] theorem State.setPattern_phase (i : Station) (p : Option Pattern) : (s.setPattern i p).phase = s.phase := rfl
@[simp] theorem State.setPattern_startCause (i : Station) (p : Option Pattern) : (s.setPattern i p).startCause = s.startCause := rfl
@[simp] theorem State.setPattern_heldCause (i : Station) (p : Option Pattern) : (s.setPattern i p).heldCause = s.heldCause := rfl
@[simp] theorem State.setPattern_pins (i : Station) (p : Option Pattern) : (s.setPattern i p).pins = s.pins := rfl
@[simp] theorem State.setPattern_ready (i : Station) (p : Option Pattern) : (s.setPattern i p).ready = s.ready := rfl
@[simp] theorem State.setPattern_resetLine (i : Station) (p : Option Pattern) : (s.setPattern i p).resetLine = s.resetLine := rfl
@[simp] theorem State.setPattern_levels (i : Station) (p : Option Pattern) : (s.setPattern i p).levels = s.levels := rfl
@[simp] theorem State.setPattern_channels (i : Station) (p : Option Pattern) : (s.setPattern i p).channels = s.channels.set i { s.channels[i] with pattern := p } := rfl
@[simp] theorem State.setPattern_sessions (i : Station) (p : Option Pattern) : (s.setPattern i p).sessions = s.sessions := rfl
@[simp] theorem State.setPattern_lastGranted (i : Station) (p : Option Pattern) : (s.setPattern i p).lastGranted = s.lastGranted := rfl
@[simp] theorem State.setPattern_engine (i : Station) (p : Option Pattern) : (s.setPattern i p).engine = s.engine := rfl
@[simp] theorem State.setPattern_loans (i : Station) (p : Option Pattern) : (s.setPattern i p).loans = s.loans := rfl
@[simp] theorem State.setPattern_tables (i : Station) (p : Option Pattern) : (s.setPattern i p).tables = s.tables := rfl
@[simp] theorem State.setPattern_journal (i : Station) (p : Option Pattern) : (s.setPattern i p).journal = s.journal := rfl
@[simp] theorem State.setPattern_clock (i : Station) (p : Option Pattern) : (s.setPattern i p).clock = s.clock := rfl
@[simp] theorem State.setPattern_slips (i : Station) (p : Option Pattern) : (s.setPattern i p).slips = s.slips := rfl
@[simp] theorem State.setPattern_link (i : Station) (p : Option Pattern) : (s.setPattern i p).link = s.link := rfl
@[simp] theorem State.setPattern_config (i : Station) (p : Option Pattern) : (s.setPattern i p).config = s.config := rfl
@[simp] theorem State.setPattern_configStore (i : Station) (p : Option Pattern) : (s.setPattern i p).configStore = s.configStore := rfl
@[simp] theorem State.setPattern_latched (i : Station) (p : Option Pattern) : (s.setPattern i p).latched = s.latched := rfl

/-! ### The ready input (R161). -/

@[simp] theorem State.readyPin_pending (r : Bool) : (s.readyPin r).pending = s.pending := rfl
@[simp] theorem State.readyPin_draws (r : Bool) : (s.readyPin r).draws = s.draws := rfl
@[simp] theorem State.readyPin_life (r : Bool) : (s.readyPin r).life = s.life := rfl
@[simp] theorem State.readyPin_phase (r : Bool) : (s.readyPin r).phase = s.phase := rfl
@[simp] theorem State.readyPin_startCause (r : Bool) : (s.readyPin r).startCause = s.startCause := rfl
@[simp] theorem State.readyPin_heldCause (r : Bool) : (s.readyPin r).heldCause = s.heldCause := rfl
@[simp] theorem State.readyPin_pins (r : Bool) : (s.readyPin r).pins = s.pins := rfl
@[simp] theorem State.readyPin_ready (r : Bool) : (s.readyPin r).ready = r := rfl
@[simp] theorem State.readyPin_resetLine (r : Bool) : (s.readyPin r).resetLine = s.resetLine := rfl
@[simp] theorem State.readyPin_levels (r : Bool) : (s.readyPin r).levels = s.levels := rfl
@[simp] theorem State.readyPin_channels (r : Bool) : (s.readyPin r).channels = s.channels := rfl
@[simp] theorem State.readyPin_sessions (r : Bool) : (s.readyPin r).sessions = s.sessions := rfl
@[simp] theorem State.readyPin_lastGranted (r : Bool) : (s.readyPin r).lastGranted = s.lastGranted := rfl
@[simp] theorem State.readyPin_engine (r : Bool) : (s.readyPin r).engine = s.engine := rfl
@[simp] theorem State.readyPin_loans (r : Bool) : (s.readyPin r).loans = s.loans := rfl
@[simp] theorem State.readyPin_tables (r : Bool) : (s.readyPin r).tables = s.tables := rfl
@[simp] theorem State.readyPin_journal (r : Bool) : (s.readyPin r).journal = s.journal := rfl
@[simp] theorem State.readyPin_clock (r : Bool) : (s.readyPin r).clock = s.clock := rfl
@[simp] theorem State.readyPin_slips (r : Bool) : (s.readyPin r).slips = s.slips := rfl
@[simp] theorem State.readyPin_link (r : Bool) : (s.readyPin r).link = s.link := rfl
@[simp] theorem State.readyPin_config (r : Bool) : (s.readyPin r).config = s.config := rfl
@[simp] theorem State.readyPin_configStore (r : Bool) : (s.readyPin r).configStore = s.configStore := rfl
@[simp] theorem State.readyPin_latched (r : Bool) : (s.readyPin r).latched = s.latched := rfl

/-! ### A selector pin (R20). -/

@[simp] theorem State.selectorPin_pending (i : Station) (l : SelectorLevel) : (s.selectorPin i l).pending = s.pending := rfl
@[simp] theorem State.selectorPin_draws (i : Station) (l : SelectorLevel) : (s.selectorPin i l).draws = s.draws := rfl
@[simp] theorem State.selectorPin_life (i : Station) (l : SelectorLevel) : (s.selectorPin i l).life = s.life := rfl
@[simp] theorem State.selectorPin_phase (i : Station) (l : SelectorLevel) : (s.selectorPin i l).phase = s.phase := rfl
@[simp] theorem State.selectorPin_startCause (i : Station) (l : SelectorLevel) : (s.selectorPin i l).startCause = s.startCause := rfl
@[simp] theorem State.selectorPin_heldCause (i : Station) (l : SelectorLevel) : (s.selectorPin i l).heldCause = s.heldCause := rfl
@[simp] theorem State.selectorPin_pins (i : Station) (l : SelectorLevel) : (s.selectorPin i l).pins = { s.pins with selector := s.pins.selector.set i l } := rfl
@[simp] theorem State.selectorPin_ready (i : Station) (l : SelectorLevel) : (s.selectorPin i l).ready = s.ready := rfl
@[simp] theorem State.selectorPin_resetLine (i : Station) (l : SelectorLevel) : (s.selectorPin i l).resetLine = s.resetLine := rfl
@[simp] theorem State.selectorPin_levels (i : Station) (l : SelectorLevel) : (s.selectorPin i l).levels = s.levels := rfl
@[simp] theorem State.selectorPin_channels (i : Station) (l : SelectorLevel) : (s.selectorPin i l).channels = s.channels := rfl
@[simp] theorem State.selectorPin_sessions (i : Station) (l : SelectorLevel) : (s.selectorPin i l).sessions = s.sessions := rfl
@[simp] theorem State.selectorPin_lastGranted (i : Station) (l : SelectorLevel) : (s.selectorPin i l).lastGranted = s.lastGranted := rfl
@[simp] theorem State.selectorPin_engine (i : Station) (l : SelectorLevel) : (s.selectorPin i l).engine = s.engine := rfl
@[simp] theorem State.selectorPin_loans (i : Station) (l : SelectorLevel) : (s.selectorPin i l).loans = s.loans := rfl
@[simp] theorem State.selectorPin_tables (i : Station) (l : SelectorLevel) : (s.selectorPin i l).tables = s.tables := rfl
@[simp] theorem State.selectorPin_journal (i : Station) (l : SelectorLevel) : (s.selectorPin i l).journal = s.journal := rfl
@[simp] theorem State.selectorPin_clock (i : Station) (l : SelectorLevel) : (s.selectorPin i l).clock = s.clock := rfl
@[simp] theorem State.selectorPin_slips (i : Station) (l : SelectorLevel) : (s.selectorPin i l).slips = s.slips := rfl
@[simp] theorem State.selectorPin_link (i : Station) (l : SelectorLevel) : (s.selectorPin i l).link = s.link := rfl
@[simp] theorem State.selectorPin_config (i : Station) (l : SelectorLevel) : (s.selectorPin i l).config = s.config := rfl
@[simp] theorem State.selectorPin_configStore (i : Station) (l : SelectorLevel) : (s.selectorPin i l).configStore = s.configStore := rfl
@[simp] theorem State.selectorPin_latched (i : Station) (l : SelectorLevel) : (s.selectorPin i l).latched = s.latched := rfl

/-! ### The maintenance input (R20). -/

@[simp] theorem State.maintenanceMoved_pending (b : Bool) : (s.maintenanceMoved b).pending = s.pending := rfl
@[simp] theorem State.maintenanceMoved_draws (b : Bool) : (s.maintenanceMoved b).draws = s.draws := rfl
@[simp] theorem State.maintenanceMoved_life (b : Bool) : (s.maintenanceMoved b).life = s.life := rfl
@[simp] theorem State.maintenanceMoved_phase (b : Bool) : (s.maintenanceMoved b).phase = s.phase := rfl
@[simp] theorem State.maintenanceMoved_startCause (b : Bool) : (s.maintenanceMoved b).startCause = s.startCause := rfl
@[simp] theorem State.maintenanceMoved_heldCause (b : Bool) : (s.maintenanceMoved b).heldCause = s.heldCause := rfl
@[simp] theorem State.maintenanceMoved_pins (b : Bool) : (s.maintenanceMoved b).pins = { s.pins with maintenance := b } := rfl
@[simp] theorem State.maintenanceMoved_ready (b : Bool) : (s.maintenanceMoved b).ready = s.ready := rfl
@[simp] theorem State.maintenanceMoved_resetLine (b : Bool) : (s.maintenanceMoved b).resetLine = s.resetLine := rfl
@[simp] theorem State.maintenanceMoved_levels (b : Bool) : (s.maintenanceMoved b).levels = { s.levels with maintenance := b } := rfl
@[simp] theorem State.maintenanceMoved_channels (b : Bool) : (s.maintenanceMoved b).channels = s.channels := rfl
@[simp] theorem State.maintenanceMoved_sessions (b : Bool) : (s.maintenanceMoved b).sessions = s.sessions := rfl
@[simp] theorem State.maintenanceMoved_lastGranted (b : Bool) : (s.maintenanceMoved b).lastGranted = s.lastGranted := rfl
@[simp] theorem State.maintenanceMoved_engine (b : Bool) : (s.maintenanceMoved b).engine = s.engine := rfl
@[simp] theorem State.maintenanceMoved_loans (b : Bool) : (s.maintenanceMoved b).loans = s.loans := rfl
@[simp] theorem State.maintenanceMoved_tables (b : Bool) : (s.maintenanceMoved b).tables = s.tables := rfl
@[simp] theorem State.maintenanceMoved_journal (b : Bool) : (s.maintenanceMoved b).journal = s.journal := rfl
@[simp] theorem State.maintenanceMoved_clock (b : Bool) : (s.maintenanceMoved b).clock = s.clock := rfl
@[simp] theorem State.maintenanceMoved_slips (b : Bool) : (s.maintenanceMoved b).slips = s.slips := rfl
@[simp] theorem State.maintenanceMoved_link (b : Bool) : (s.maintenanceMoved b).link = s.link := rfl
@[simp] theorem State.maintenanceMoved_config (b : Bool) : (s.maintenanceMoved b).config = s.config := rfl
@[simp] theorem State.maintenanceMoved_configStore (b : Bool) : (s.maintenanceMoved b).configStore = s.configStore := rfl
@[simp] theorem State.maintenanceMoved_latched (b : Bool) : (s.maintenanceMoved b).latched = s.latched := rfl

/-! ### The port's test (R163). -/

@[simp] theorem State.portTest_pending : (s.portTest).pending = s.pending := rfl
@[simp] theorem State.portTest_draws : (s.portTest).draws = s.draws := rfl
@[simp] theorem State.portTest_life : (s.portTest).life = s.life := rfl
@[simp] theorem State.portTest_phase : (s.portTest).phase = s.phase := rfl
@[simp] theorem State.portTest_startCause : (s.portTest).startCause = s.startCause := rfl
@[simp] theorem State.portTest_heldCause : (s.portTest).heldCause = s.heldCause := rfl
@[simp] theorem State.portTest_pins : (s.portTest).pins = s.pins := rfl
@[simp] theorem State.portTest_ready : (s.portTest).ready = s.ready := rfl
@[simp] theorem State.portTest_resetLine : (s.portTest).resetLine = s.resetLine := rfl
@[simp] theorem State.portTest_levels : (s.portTest).levels = s.levels := rfl
@[simp] theorem State.portTest_channels : (s.portTest).channels = s.channels := rfl
@[simp] theorem State.portTest_sessions : (s.portTest).sessions = s.sessions := rfl
@[simp] theorem State.portTest_lastGranted : (s.portTest).lastGranted = s.lastGranted := rfl
@[simp] theorem State.portTest_engine : (s.portTest).engine = s.engine := rfl
@[simp] theorem State.portTest_loans : (s.portTest).loans = s.loans := rfl
@[simp] theorem State.portTest_tables : (s.portTest).tables = s.tables := rfl
@[simp] theorem State.portTest_journal : (s.portTest).journal = s.journal := rfl
@[simp] theorem State.portTest_clock : (s.portTest).clock = s.clock := rfl
@[simp] theorem State.portTest_slips : (s.portTest).slips = s.slips.test s.config.printerRate s.levels.paperOut s.ready := rfl
@[simp] theorem State.portTest_link : (s.portTest).link = s.link := rfl
@[simp] theorem State.portTest_config : (s.portTest).config = s.config := rfl
@[simp] theorem State.portTest_configStore : (s.portTest).configStore = s.configStore := rfl
@[simp] theorem State.portTest_latched : (s.portTest).latched = s.latched := rfl

/-! ### A slip taken by the Slip Unit (R157). -/

@[simp] theorem State.joinSlip_pending (x : Slip) : (s.joinSlip x).pending = s.pending := rfl
@[simp] theorem State.joinSlip_draws (x : Slip) : (s.joinSlip x).draws = s.draws := rfl
@[simp] theorem State.joinSlip_life (x : Slip) : (s.joinSlip x).life = s.life := rfl
@[simp] theorem State.joinSlip_phase (x : Slip) : (s.joinSlip x).phase = s.phase := rfl
@[simp] theorem State.joinSlip_startCause (x : Slip) : (s.joinSlip x).startCause = s.startCause := rfl
@[simp] theorem State.joinSlip_heldCause (x : Slip) : (s.joinSlip x).heldCause = s.heldCause := rfl
@[simp] theorem State.joinSlip_pins (x : Slip) : (s.joinSlip x).pins = s.pins := rfl
@[simp] theorem State.joinSlip_ready (x : Slip) : (s.joinSlip x).ready = s.ready := rfl
@[simp] theorem State.joinSlip_resetLine (x : Slip) : (s.joinSlip x).resetLine = s.resetLine := rfl
@[simp] theorem State.joinSlip_levels (x : Slip) : (s.joinSlip x).levels = s.levels := rfl
@[simp] theorem State.joinSlip_channels (x : Slip) : (s.joinSlip x).channels = s.channels := rfl
@[simp] theorem State.joinSlip_sessions (x : Slip) : (s.joinSlip x).sessions = s.sessions := rfl
@[simp] theorem State.joinSlip_lastGranted (x : Slip) : (s.joinSlip x).lastGranted = s.lastGranted := rfl
@[simp] theorem State.joinSlip_engine (x : Slip) : (s.joinSlip x).engine = s.engine := rfl
@[simp] theorem State.joinSlip_loans (x : Slip) : (s.joinSlip x).loans = s.loans := rfl
@[simp] theorem State.joinSlip_tables (x : Slip) : (s.joinSlip x).tables = s.tables := rfl
@[simp] theorem State.joinSlip_journal (x : Slip) : (s.joinSlip x).journal = s.journal := rfl
@[simp] theorem State.joinSlip_clock (x : Slip) : (s.joinSlip x).clock = s.clock := rfl
@[simp] theorem State.joinSlip_slips (x : Slip) : (s.joinSlip x).slips = s.slips.join s.config s.levels.paperOut s.ready x := rfl
@[simp] theorem State.joinSlip_link (x : Slip) : (s.joinSlip x).link = s.link := rfl
@[simp] theorem State.joinSlip_config (x : Slip) : (s.joinSlip x).config = s.config := rfl
@[simp] theorem State.joinSlip_configStore (x : Slip) : (s.joinSlip x).configStore = s.configStore := rfl
@[simp] theorem State.joinSlip_latched (x : Slip) : (s.joinSlip x).latched = s.latched := rfl

/-! ### A record's effects at its completion (R136 to R138). -/

@[simp] theorem State.recordEffects_pending (r : JournalRecord) : (s.recordEffects r).pending = s.pending := rfl
@[simp] theorem State.recordEffects_draws (r : JournalRecord) : (s.recordEffects r).draws = s.draws := rfl
@[simp] theorem State.recordEffects_life (r : JournalRecord) : (s.recordEffects r).life = s.life := rfl
@[simp] theorem State.recordEffects_phase (r : JournalRecord) : (s.recordEffects r).phase = s.phase := rfl
@[simp] theorem State.recordEffects_startCause (r : JournalRecord) : (s.recordEffects r).startCause = s.startCause := rfl
@[simp] theorem State.recordEffects_heldCause (r : JournalRecord) : (s.recordEffects r).heldCause = s.heldCause := rfl
@[simp] theorem State.recordEffects_pins (r : JournalRecord) : (s.recordEffects r).pins = s.pins := rfl
@[simp] theorem State.recordEffects_ready (r : JournalRecord) : (s.recordEffects r).ready = s.ready := rfl
@[simp] theorem State.recordEffects_resetLine (r : JournalRecord) : (s.recordEffects r).resetLine = s.resetLine := rfl
@[simp] theorem State.recordEffects_levels (r : JournalRecord) : (s.recordEffects r).levels = s.levels := rfl
@[simp] theorem State.recordEffects_channels (r : JournalRecord) : (s.recordEffects r).channels = s.channels := rfl
@[simp] theorem State.recordEffects_sessions (r : JournalRecord) : (s.recordEffects r).sessions = s.sessions := rfl
@[simp] theorem State.recordEffects_lastGranted (r : JournalRecord) : (s.recordEffects r).lastGranted = s.lastGranted := rfl
@[simp] theorem State.recordEffects_engine (r : JournalRecord) : (s.recordEffects r).engine = s.engine := rfl
@[simp] theorem State.recordEffects_loans (r : JournalRecord) : (s.recordEffects r).loans = applyToLoans r s.loans := rfl
@[simp] theorem State.recordEffects_tables (r : JournalRecord) : (s.recordEffects r).tables = s.tables.rewriteLive (applyToTables r) := rfl
@[simp] theorem State.recordEffects_journal (r : JournalRecord) : (s.recordEffects r).journal = { s.journal.complete r with writer := .idle } := rfl
@[simp] theorem State.recordEffects_clock (r : JournalRecord) : (s.recordEffects r).clock = s.clock := rfl
@[simp] theorem State.recordEffects_slips (r : JournalRecord) : (s.recordEffects r).slips = s.slips := rfl
@[simp] theorem State.recordEffects_link (r : JournalRecord) : (s.recordEffects r).link = s.link := rfl
@[simp] theorem State.recordEffects_config (r : JournalRecord) : (s.recordEffects r).config = s.config := rfl
@[simp] theorem State.recordEffects_configStore (r : JournalRecord) : (s.recordEffects r).configStore = s.configStore := rfl
@[simp] theorem State.recordEffects_latched (r : JournalRecord) : (s.recordEffects r).latched = s.latched := rfl

/-! ### Start-up begun (R192, R193). -/

@[simp] theorem State.startUp_pending (c : Cause) : (s.startUp c).pending = s.pending := rfl
@[simp] theorem State.startUp_draws (c : Cause) : (s.startUp c).draws = s.draws := rfl
@[simp] theorem State.startUp_life (c : Cause) : (s.startUp c).life = .on := rfl
@[simp] theorem State.startUp_phase (c : Cause) : (s.startUp c).phase = .recovery := rfl
@[simp] theorem State.startUp_startCause (c : Cause) : (s.startUp c).startCause = c := rfl
@[simp] theorem State.startUp_heldCause (c : Cause) : (s.startUp c).heldCause = some c := rfl
@[simp] theorem State.startUp_pins (c : Cause) : (s.startUp c).pins = s.pins := rfl
@[simp] theorem State.startUp_ready (c : Cause) : (s.startUp c).ready = s.ready := rfl
@[simp] theorem State.startUp_resetLine (c : Cause) : (s.startUp c).resetLine = s.resetLine := rfl
@[simp] theorem State.startUp_levels (c : Cause) : (s.startUp c).levels = s.pins := rfl
@[simp] theorem State.startUp_channels (c : Cause) : (s.startUp c).channels = s.channels := rfl
@[simp] theorem State.startUp_sessions (c : Cause) : (s.startUp c).sessions = s.sessions := rfl
@[simp] theorem State.startUp_lastGranted (c : Cause) : (s.startUp c).lastGranted = s.lastGranted := rfl
@[simp] theorem State.startUp_engine (c : Cause) : (s.startUp c).engine = s.engine := rfl
@[simp] theorem State.startUp_loans (c : Cause) : (s.startUp c).loans = s.loans := rfl
@[simp] theorem State.startUp_tables (c : Cause) : (s.startUp c).tables = s.tables := rfl
@[simp] theorem State.startUp_journal (c : Cause) : (s.startUp c).journal = s.journal := rfl
@[simp] theorem State.startUp_clock (c : Cause) : (s.startUp c).clock = s.clock := rfl
@[simp] theorem State.startUp_slips (c : Cause) : (s.startUp c).slips = s.slips := rfl
@[simp] theorem State.startUp_link (c : Cause) : (s.startUp c).link = s.link := rfl
@[simp] theorem State.startUp_config (c : Cause) : (s.startUp c).config = s.config := rfl
@[simp] theorem State.startUp_configStore (c : Cause) : (s.startUp c).configStore = s.configStore := rfl
@[simp] theorem State.startUp_latched (c : Cause) : (s.startUp c).latched = s.latched := rfl

/-! ### The reset input asserted (R192). -/

@[simp] theorem State.resetAsserted_pending : (s.resetAsserted).pending = s.pending := rfl
@[simp] theorem State.resetAsserted_draws : (s.resetAsserted).draws = s.draws := rfl
@[simp] theorem State.resetAsserted_life : (s.resetAsserted).life = match s.life with | .on | .waitRestart | .waitReset => .waitReset | .off => .off | .inReset => .inReset := rfl
@[simp] theorem State.resetAsserted_phase : (s.resetAsserted).phase = s.phase := rfl
@[simp] theorem State.resetAsserted_startCause : (s.resetAsserted).startCause = s.startCause := rfl
@[simp] theorem State.resetAsserted_heldCause : (s.resetAsserted).heldCause = s.heldCause := rfl
@[simp] theorem State.resetAsserted_pins : (s.resetAsserted).pins = s.pins := rfl
@[simp] theorem State.resetAsserted_ready : (s.resetAsserted).ready = s.ready := rfl
@[simp] theorem State.resetAsserted_resetLine : (s.resetAsserted).resetLine = true := rfl
@[simp] theorem State.resetAsserted_levels : (s.resetAsserted).levels = s.levels := rfl
@[simp] theorem State.resetAsserted_channels : (s.resetAsserted).channels = s.channels := rfl
@[simp] theorem State.resetAsserted_sessions : (s.resetAsserted).sessions = s.sessions := rfl
@[simp] theorem State.resetAsserted_lastGranted : (s.resetAsserted).lastGranted = s.lastGranted := rfl
@[simp] theorem State.resetAsserted_engine : (s.resetAsserted).engine = s.engine := rfl
@[simp] theorem State.resetAsserted_loans : (s.resetAsserted).loans = s.loans := rfl
@[simp] theorem State.resetAsserted_tables : (s.resetAsserted).tables = s.tables := rfl
@[simp] theorem State.resetAsserted_journal : (s.resetAsserted).journal = s.journal := rfl
@[simp] theorem State.resetAsserted_clock : (s.resetAsserted).clock = s.clock := rfl
@[simp] theorem State.resetAsserted_slips : (s.resetAsserted).slips = s.slips := rfl
@[simp] theorem State.resetAsserted_link : (s.resetAsserted).link = s.link := rfl
@[simp] theorem State.resetAsserted_config : (s.resetAsserted).config = s.config := rfl
@[simp] theorem State.resetAsserted_configStore : (s.resetAsserted).configStore = s.configStore := rfl
@[simp] theorem State.resetAsserted_latched : (s.resetAsserted).latched = s.latched := rfl

end Sys2Proof.Machine
end

