-- ==== Sys2Proof/Laws/Ops.lean ====
section
/-! SUPPORT. What the operations over the state that branch leave as it was, field by field, and what else they can do. -/

namespace Sys2Proof.Machine

variable (s : State)

/-! ### An outcome shown (R22) -/

@[simp] theorem State.display_pending (i : Station) (o : OutcomeKind) : (s.display i o).pending = s.pending := by
  simp only [State.display]; repeat' split
  all_goals simp
@[simp] theorem State.display_draws (i : Station) (o : OutcomeKind) : (s.display i o).draws = s.draws := by
  simp only [State.display]; repeat' split
  all_goals simp
@[simp] theorem State.display_life (i : Station) (o : OutcomeKind) : (s.display i o).life = s.life := by
  simp only [State.display]; repeat' split
  all_goals simp
@[simp] theorem State.display_phase (i : Station) (o : OutcomeKind) : (s.display i o).phase = s.phase := by
  simp only [State.display]; repeat' split
  all_goals simp
@[simp] theorem State.display_startCause (i : Station) (o : OutcomeKind) : (s.display i o).startCause = s.startCause := by
  simp only [State.display]; repeat' split
  all_goals simp
@[simp] theorem State.display_heldCause (i : Station) (o : OutcomeKind) : (s.display i o).heldCause = s.heldCause := by
  simp only [State.display]; repeat' split
  all_goals simp
@[simp] theorem State.display_pins (i : Station) (o : OutcomeKind) : (s.display i o).pins = s.pins := by
  simp only [State.display]; repeat' split
  all_goals simp
@[simp] theorem State.display_ready (i : Station) (o : OutcomeKind) : (s.display i o).ready = s.ready := by
  simp only [State.display]; repeat' split
  all_goals simp
@[simp] theorem State.display_resetLine (i : Station) (o : OutcomeKind) : (s.display i o).resetLine = s.resetLine := by
  simp only [State.display]; repeat' split
  all_goals simp
@[simp] theorem State.display_levels (i : Station) (o : OutcomeKind) : (s.display i o).levels = s.levels := by
  simp only [State.display]; repeat' split
  all_goals simp
@[simp] theorem State.display_sessions (i : Station) (o : OutcomeKind) : (s.display i o).sessions = s.sessions := by
  simp only [State.display]; repeat' split
  all_goals simp
@[simp] theorem State.display_lastGranted (i : Station) (o : OutcomeKind) : (s.display i o).lastGranted = s.lastGranted := by
  simp only [State.display]; repeat' split
  all_goals simp
@[simp] theorem State.display_engine (i : Station) (o : OutcomeKind) : (s.display i o).engine = s.engine := by
  simp only [State.display]; repeat' split
  all_goals simp
@[simp] theorem State.display_loans (i : Station) (o : OutcomeKind) : (s.display i o).loans = s.loans := by
  simp only [State.display]; repeat' split
  all_goals simp
@[simp] theorem State.display_tables (i : Station) (o : OutcomeKind) : (s.display i o).tables = s.tables := by
  simp only [State.display]; repeat' split
  all_goals simp
@[simp] theorem State.display_journal (i : Station) (o : OutcomeKind) : (s.display i o).journal = s.journal := by
  simp only [State.display]; repeat' split
  all_goals simp
@[simp] theorem State.display_clock (i : Station) (o : OutcomeKind) : (s.display i o).clock = s.clock := by
  simp only [State.display]; repeat' split
  all_goals simp
@[simp] theorem State.display_slips (i : Station) (o : OutcomeKind) : (s.display i o).slips = s.slips := by
  simp only [State.display]; repeat' split
  all_goals simp
@[simp] theorem State.display_link (i : Station) (o : OutcomeKind) : (s.display i o).link = s.link := by
  simp only [State.display]; repeat' split
  all_goals simp
@[simp] theorem State.display_config (i : Station) (o : OutcomeKind) : (s.display i o).config = s.config := by
  simp only [State.display]; repeat' split
  all_goals simp
@[simp] theorem State.display_configStore (i : Station) (o : OutcomeKind) : (s.display i o).configStore = s.configStore := by
  simp only [State.display]; repeat' split
  all_goals simp
@[simp] theorem State.display_latched (i : Station) (o : OutcomeKind) : (s.display i o).latched = s.latched := by
  simp only [State.display]; repeat' split
  all_goals simp

/-! ### A wand error counted (R19) -/

@[simp] theorem State.countError_pending (i : Station) : (s.countError i).pending = s.pending := by
  simp only [State.countError]; repeat' split
  all_goals simp
@[simp] theorem State.countError_draws (i : Station) : (s.countError i).draws = s.draws := by
  simp only [State.countError]; repeat' split
  all_goals simp
@[simp] theorem State.countError_life (i : Station) : (s.countError i).life = s.life := by
  simp only [State.countError]; repeat' split
  all_goals simp
@[simp] theorem State.countError_phase (i : Station) : (s.countError i).phase = s.phase := by
  simp only [State.countError]; repeat' split
  all_goals simp
@[simp] theorem State.countError_startCause (i : Station) : (s.countError i).startCause = s.startCause := by
  simp only [State.countError]; repeat' split
  all_goals simp
@[simp] theorem State.countError_heldCause (i : Station) : (s.countError i).heldCause = s.heldCause := by
  simp only [State.countError]; repeat' split
  all_goals simp
@[simp] theorem State.countError_pins (i : Station) : (s.countError i).pins = s.pins := by
  simp only [State.countError]; repeat' split
  all_goals simp
@[simp] theorem State.countError_ready (i : Station) : (s.countError i).ready = s.ready := by
  simp only [State.countError]; repeat' split
  all_goals simp
@[simp] theorem State.countError_resetLine (i : Station) : (s.countError i).resetLine = s.resetLine := by
  simp only [State.countError]; repeat' split
  all_goals simp
@[simp] theorem State.countError_levels (i : Station) : (s.countError i).levels = s.levels := by
  simp only [State.countError]; repeat' split
  all_goals simp
@[simp] theorem State.countError_sessions (i : Station) : (s.countError i).sessions = s.sessions := by
  simp only [State.countError]; repeat' split
  all_goals simp
@[simp] theorem State.countError_lastGranted (i : Station) : (s.countError i).lastGranted = s.lastGranted := by
  simp only [State.countError]; repeat' split
  all_goals simp
@[simp] theorem State.countError_engine (i : Station) : (s.countError i).engine = s.engine := by
  simp only [State.countError]; repeat' split
  all_goals simp
@[simp] theorem State.countError_loans (i : Station) : (s.countError i).loans = s.loans := by
  simp only [State.countError]; repeat' split
  all_goals simp
@[simp] theorem State.countError_tables (i : Station) : (s.countError i).tables = s.tables := by
  simp only [State.countError]; repeat' split
  all_goals simp
@[simp] theorem State.countError_journal (i : Station) : (s.countError i).journal = s.journal := by
  simp only [State.countError]; repeat' split
  all_goals simp
@[simp] theorem State.countError_clock (i : Station) : (s.countError i).clock = s.clock := by
  simp only [State.countError]; repeat' split
  all_goals simp
@[simp] theorem State.countError_slips (i : Station) : (s.countError i).slips = s.slips := by
  simp only [State.countError]; repeat' split
  all_goals simp
@[simp] theorem State.countError_link (i : Station) : (s.countError i).link = s.link := by
  simp only [State.countError]; repeat' split
  all_goals simp
@[simp] theorem State.countError_config (i : Station) : (s.countError i).config = s.config := by
  simp only [State.countError]; repeat' split
  all_goals simp
@[simp] theorem State.countError_configStore (i : Station) : (s.countError i).configStore = s.configStore := by
  simp only [State.countError]; repeat' split
  all_goals simp

/-! ### A link error counted (R173) -/

@[simp] theorem State.countLinkError_pending : (s.countLinkError).pending = s.pending := by
  simp only [State.countLinkError]; repeat' split
  all_goals simp
@[simp] theorem State.countLinkError_draws : (s.countLinkError).draws = s.draws := by
  simp only [State.countLinkError]; repeat' split
  all_goals simp
@[simp] theorem State.countLinkError_life : (s.countLinkError).life = s.life := by
  simp only [State.countLinkError]; repeat' split
  all_goals simp
@[simp] theorem State.countLinkError_phase : (s.countLinkError).phase = s.phase := by
  simp only [State.countLinkError]; repeat' split
  all_goals simp
@[simp] theorem State.countLinkError_startCause : (s.countLinkError).startCause = s.startCause := by
  simp only [State.countLinkError]; repeat' split
  all_goals simp
@[simp] theorem State.countLinkError_heldCause : (s.countLinkError).heldCause = s.heldCause := by
  simp only [State.countLinkError]; repeat' split
  all_goals simp
@[simp] theorem State.countLinkError_pins : (s.countLinkError).pins = s.pins := by
  simp only [State.countLinkError]; repeat' split
  all_goals simp
@[simp] theorem State.countLinkError_ready : (s.countLinkError).ready = s.ready := by
  simp only [State.countLinkError]; repeat' split
  all_goals simp
@[simp] theorem State.countLinkError_resetLine : (s.countLinkError).resetLine = s.resetLine := by
  simp only [State.countLinkError]; repeat' split
  all_goals simp
@[simp] theorem State.countLinkError_levels : (s.countLinkError).levels = s.levels := by
  simp only [State.countLinkError]; repeat' split
  all_goals simp
@[simp] theorem State.countLinkError_channels : (s.countLinkError).channels = s.channels := by
  simp only [State.countLinkError]; repeat' split
  all_goals simp
@[simp] theorem State.countLinkError_sessions : (s.countLinkError).sessions = s.sessions := by
  simp only [State.countLinkError]; repeat' split
  all_goals simp
@[simp] theorem State.countLinkError_lastGranted : (s.countLinkError).lastGranted = s.lastGranted := by
  simp only [State.countLinkError]; repeat' split
  all_goals simp
@[simp] theorem State.countLinkError_engine : (s.countLinkError).engine = s.engine := by
  simp only [State.countLinkError]; repeat' split
  all_goals simp
@[simp] theorem State.countLinkError_loans : (s.countLinkError).loans = s.loans := by
  simp only [State.countLinkError]; repeat' split
  all_goals simp
@[simp] theorem State.countLinkError_tables : (s.countLinkError).tables = s.tables := by
  simp only [State.countLinkError]; repeat' split
  all_goals simp
@[simp] theorem State.countLinkError_journal : (s.countLinkError).journal = s.journal := by
  simp only [State.countLinkError]; repeat' split
  all_goals simp
@[simp] theorem State.countLinkError_clock : (s.countLinkError).clock = s.clock := by
  simp only [State.countLinkError]; repeat' split
  all_goals simp
@[simp] theorem State.countLinkError_slips : (s.countLinkError).slips = s.slips := by
  simp only [State.countLinkError]; repeat' split
  all_goals simp
@[simp] theorem State.countLinkError_config : (s.countLinkError).config = s.config := by
  simp only [State.countLinkError]; repeat' split
  all_goals simp
@[simp] theorem State.countLinkError_configStore : (s.countLinkError).configStore = s.configStore := by
  simp only [State.countLinkError]; repeat' split
  all_goals simp

/-! ### Waiting scans discarded (R27) -/

@[simp] theorem State.discardScans_pending (i : Station) : (s.discardScans i).pending = s.pending := by
  simp only [State.discardScans]; repeat' split
  all_goals simp
@[simp] theorem State.discardScans_draws (i : Station) : (s.discardScans i).draws = s.draws := by
  simp only [State.discardScans]; repeat' split
  all_goals simp
@[simp] theorem State.discardScans_life (i : Station) : (s.discardScans i).life = s.life := by
  simp only [State.discardScans]; repeat' split
  all_goals simp
@[simp] theorem State.discardScans_phase (i : Station) : (s.discardScans i).phase = s.phase := by
  simp only [State.discardScans]; repeat' split
  all_goals simp
@[simp] theorem State.discardScans_startCause (i : Station) : (s.discardScans i).startCause = s.startCause := by
  simp only [State.discardScans]; repeat' split
  all_goals simp
@[simp] theorem State.discardScans_heldCause (i : Station) : (s.discardScans i).heldCause = s.heldCause := by
  simp only [State.discardScans]; repeat' split
  all_goals simp
@[simp] theorem State.discardScans_pins (i : Station) : (s.discardScans i).pins = s.pins := by
  simp only [State.discardScans]; repeat' split
  all_goals simp
@[simp] theorem State.discardScans_ready (i : Station) : (s.discardScans i).ready = s.ready := by
  simp only [State.discardScans]; repeat' split
  all_goals simp
@[simp] theorem State.discardScans_resetLine (i : Station) : (s.discardScans i).resetLine = s.resetLine := by
  simp only [State.discardScans]; repeat' split
  all_goals simp
@[simp] theorem State.discardScans_levels (i : Station) : (s.discardScans i).levels = s.levels := by
  simp only [State.discardScans]; repeat' split
  all_goals simp
@[simp] theorem State.discardScans_sessions (i : Station) : (s.discardScans i).sessions = s.sessions := by
  simp only [State.discardScans]; repeat' split
  all_goals simp
@[simp] theorem State.discardScans_lastGranted (i : Station) : (s.discardScans i).lastGranted = s.lastGranted := by
  simp only [State.discardScans]; repeat' split
  all_goals simp
@[simp] theorem State.discardScans_engine (i : Station) : (s.discardScans i).engine = s.engine := by
  simp only [State.discardScans]; repeat' split
  all_goals simp
@[simp] theorem State.discardScans_loans (i : Station) : (s.discardScans i).loans = s.loans := by
  simp only [State.discardScans]; repeat' split
  all_goals simp
@[simp] theorem State.discardScans_tables (i : Station) : (s.discardScans i).tables = s.tables := by
  simp only [State.discardScans]; repeat' split
  all_goals simp
@[simp] theorem State.discardScans_journal (i : Station) : (s.discardScans i).journal = s.journal := by
  simp only [State.discardScans]; repeat' split
  all_goals simp
@[simp] theorem State.discardScans_clock (i : Station) : (s.discardScans i).clock = s.clock := by
  simp only [State.discardScans]; repeat' split
  all_goals simp
@[simp] theorem State.discardScans_slips (i : Station) : (s.discardScans i).slips = s.slips := by
  simp only [State.discardScans]; repeat' split
  all_goals simp
@[simp] theorem State.discardScans_link (i : Station) : (s.discardScans i).link = s.link := by
  simp only [State.discardScans]; repeat' split
  all_goals simp
@[simp] theorem State.discardScans_config (i : Station) : (s.discardScans i).config = s.config := by
  simp only [State.discardScans]; repeat' split
  all_goals simp
@[simp] theorem State.discardScans_configStore (i : Station) : (s.discardScans i).configStore = s.configStore := by
  simp only [State.discardScans]; repeat' split
  all_goals simp
@[simp] theorem State.discardScans_latched (i : Station) : (s.discardScans i).latched = s.latched := by
  simp only [State.discardScans]; repeat' split
  all_goals simp

/-! ### A slip outcome settled (R45) -/

@[simp] theorem State.settleSlip_pending (i : Station) (o : SlipOutcome) : (s.settleSlip i o).pending = s.pending := rfl
@[simp] theorem State.settleSlip_draws (i : Station) (o : SlipOutcome) : (s.settleSlip i o).draws = s.draws := rfl
@[simp] theorem State.settleSlip_life (i : Station) (o : SlipOutcome) : (s.settleSlip i o).life = s.life := rfl
@[simp] theorem State.settleSlip_phase (i : Station) (o : SlipOutcome) : (s.settleSlip i o).phase = s.phase := rfl
@[simp] theorem State.settleSlip_startCause (i : Station) (o : SlipOutcome) : (s.settleSlip i o).startCause = s.startCause := rfl
@[simp] theorem State.settleSlip_heldCause (i : Station) (o : SlipOutcome) : (s.settleSlip i o).heldCause = s.heldCause := rfl
@[simp] theorem State.settleSlip_pins (i : Station) (o : SlipOutcome) : (s.settleSlip i o).pins = s.pins := rfl
@[simp] theorem State.settleSlip_ready (i : Station) (o : SlipOutcome) : (s.settleSlip i o).ready = s.ready := rfl
@[simp] theorem State.settleSlip_resetLine (i : Station) (o : SlipOutcome) : (s.settleSlip i o).resetLine = s.resetLine := rfl
@[simp] theorem State.settleSlip_levels (i : Station) (o : SlipOutcome) : (s.settleSlip i o).levels = s.levels := rfl
@[simp] theorem State.settleSlip_channels (i : Station) (o : SlipOutcome) : (s.settleSlip i o).channels = s.channels := rfl
@[simp] theorem State.settleSlip_lastGranted (i : Station) (o : SlipOutcome) : (s.settleSlip i o).lastGranted = s.lastGranted := rfl
@[simp] theorem State.settleSlip_engine (i : Station) (o : SlipOutcome) : (s.settleSlip i o).engine = s.engine := rfl
@[simp] theorem State.settleSlip_loans (i : Station) (o : SlipOutcome) : (s.settleSlip i o).loans = s.loans := rfl
@[simp] theorem State.settleSlip_tables (i : Station) (o : SlipOutcome) : (s.settleSlip i o).tables = s.tables := rfl
@[simp] theorem State.settleSlip_clock (i : Station) (o : SlipOutcome) : (s.settleSlip i o).clock = s.clock := rfl
@[simp] theorem State.settleSlip_slips (i : Station) (o : SlipOutcome) : (s.settleSlip i o).slips = s.slips := rfl
@[simp] theorem State.settleSlip_link (i : Station) (o : SlipOutcome) : (s.settleSlip i o).link = s.link := rfl
@[simp] theorem State.settleSlip_config (i : Station) (o : SlipOutcome) : (s.settleSlip i o).config = s.config := rfl
@[simp] theorem State.settleSlip_configStore (i : Station) (o : SlipOutcome) : (s.settleSlip i o).configStore = s.configStore := rfl
@[simp] theorem State.settleSlip_latched (i : Station) (o : SlipOutcome) : (s.settleSlip i o).latched = s.latched := rfl

/-! ### A slip settled (R45, R46) -/

@[simp] theorem State.slipSettled_pending (i : Station) (x : Slip) (o : SlipOutcome) : (s.slipSettled i x o).pending = s.pending := by
  simp only [State.slipSettled]; repeat' split
  all_goals simp
@[simp] theorem State.slipSettled_draws (i : Station) (x : Slip) (o : SlipOutcome) : (s.slipSettled i x o).draws = s.draws := by
  simp only [State.slipSettled]; repeat' split
  all_goals simp
@[simp] theorem State.slipSettled_life (i : Station) (x : Slip) (o : SlipOutcome) : (s.slipSettled i x o).life = s.life := by
  simp only [State.slipSettled]; repeat' split
  all_goals simp
@[simp] theorem State.slipSettled_phase (i : Station) (x : Slip) (o : SlipOutcome) : (s.slipSettled i x o).phase = s.phase := by
  simp only [State.slipSettled]; repeat' split
  all_goals simp
@[simp] theorem State.slipSettled_startCause (i : Station) (x : Slip) (o : SlipOutcome) : (s.slipSettled i x o).startCause = s.startCause := by
  simp only [State.slipSettled]; repeat' split
  all_goals simp
@[simp] theorem State.slipSettled_heldCause (i : Station) (x : Slip) (o : SlipOutcome) : (s.slipSettled i x o).heldCause = s.heldCause := by
  simp only [State.slipSettled]; repeat' split
  all_goals simp
@[simp] theorem State.slipSettled_pins (i : Station) (x : Slip) (o : SlipOutcome) : (s.slipSettled i x o).pins = s.pins := by
  simp only [State.slipSettled]; repeat' split
  all_goals simp
@[simp] theorem State.slipSettled_ready (i : Station) (x : Slip) (o : SlipOutcome) : (s.slipSettled i x o).ready = s.ready := by
  simp only [State.slipSettled]; repeat' split
  all_goals simp
@[simp] theorem State.slipSettled_resetLine (i : Station) (x : Slip) (o : SlipOutcome) : (s.slipSettled i x o).resetLine = s.resetLine := by
  simp only [State.slipSettled]; repeat' split
  all_goals simp
@[simp] theorem State.slipSettled_levels (i : Station) (x : Slip) (o : SlipOutcome) : (s.slipSettled i x o).levels = s.levels := by
  simp only [State.slipSettled]; repeat' split
  all_goals simp
@[simp] theorem State.slipSettled_channels (i : Station) (x : Slip) (o : SlipOutcome) : (s.slipSettled i x o).channels = s.channels := by
  simp only [State.slipSettled]; repeat' split
  all_goals simp
@[simp] theorem State.slipSettled_lastGranted (i : Station) (x : Slip) (o : SlipOutcome) : (s.slipSettled i x o).lastGranted = s.lastGranted := by
  simp only [State.slipSettled]; repeat' split
  all_goals simp
@[simp] theorem State.slipSettled_engine (i : Station) (x : Slip) (o : SlipOutcome) : (s.slipSettled i x o).engine = s.engine := by
  simp only [State.slipSettled]; repeat' split
  all_goals simp
@[simp] theorem State.slipSettled_loans (i : Station) (x : Slip) (o : SlipOutcome) : (s.slipSettled i x o).loans = s.loans := by
  simp only [State.slipSettled]; repeat' split
  all_goals simp
@[simp] theorem State.slipSettled_tables (i : Station) (x : Slip) (o : SlipOutcome) : (s.slipSettled i x o).tables = s.tables := by
  simp only [State.slipSettled]; repeat' split
  all_goals simp
@[simp] theorem State.slipSettled_clock (i : Station) (x : Slip) (o : SlipOutcome) : (s.slipSettled i x o).clock = s.clock := by
  simp only [State.slipSettled]; repeat' split
  all_goals simp
@[simp] theorem State.slipSettled_slips (i : Station) (x : Slip) (o : SlipOutcome) : (s.slipSettled i x o).slips = s.slips := by
  simp only [State.slipSettled]; repeat' split
  all_goals simp
@[simp] theorem State.slipSettled_link (i : Station) (x : Slip) (o : SlipOutcome) : (s.slipSettled i x o).link = s.link := by
  simp only [State.slipSettled]; repeat' split
  all_goals simp
@[simp] theorem State.slipSettled_config (i : Station) (x : Slip) (o : SlipOutcome) : (s.slipSettled i x o).config = s.config := by
  simp only [State.slipSettled]; repeat' split
  all_goals simp
@[simp] theorem State.slipSettled_configStore (i : Station) (x : Slip) (o : SlipOutcome) : (s.slipSettled i x o).configStore = s.configStore := by
  simp only [State.slipSettled]; repeat' split
  all_goals simp
@[simp] theorem State.slipSettled_latched (i : Station) (x : Slip) (o : SlipOutcome) : (s.slipSettled i x o).latched = s.latched := by
  simp only [State.slipSettled]; repeat' split
  all_goals simp

/-! ### A slip offered (R43, R44) -/

@[simp] theorem State.offer_pending (i : Station) (x : Slip) : (s.offer i x).pending = s.pending := by
  simp only [State.offer]; repeat' split
  all_goals simp
@[simp] theorem State.offer_draws (i : Station) (x : Slip) : (s.offer i x).draws = s.draws := by
  simp only [State.offer]; repeat' split
  all_goals simp
@[simp] theorem State.offer_life (i : Station) (x : Slip) : (s.offer i x).life = s.life := by
  simp only [State.offer]; repeat' split
  all_goals simp
@[simp] theorem State.offer_phase (i : Station) (x : Slip) : (s.offer i x).phase = s.phase := by
  simp only [State.offer]; repeat' split
  all_goals simp
@[simp] theorem State.offer_startCause (i : Station) (x : Slip) : (s.offer i x).startCause = s.startCause := by
  simp only [State.offer]; repeat' split
  all_goals simp
@[simp] theorem State.offer_heldCause (i : Station) (x : Slip) : (s.offer i x).heldCause = s.heldCause := by
  simp only [State.offer]; repeat' split
  all_goals simp
@[simp] theorem State.offer_pins (i : Station) (x : Slip) : (s.offer i x).pins = s.pins := by
  simp only [State.offer]; repeat' split
  all_goals simp
@[simp] theorem State.offer_ready (i : Station) (x : Slip) : (s.offer i x).ready = s.ready := by
  simp only [State.offer]; repeat' split
  all_goals simp
@[simp] theorem State.offer_resetLine (i : Station) (x : Slip) : (s.offer i x).resetLine = s.resetLine := by
  simp only [State.offer]; repeat' split
  all_goals simp
@[simp] theorem State.offer_levels (i : Station) (x : Slip) : (s.offer i x).levels = s.levels := by
  simp only [State.offer]; repeat' split
  all_goals simp
@[simp] theorem State.offer_channels (i : Station) (x : Slip) : (s.offer i x).channels = s.channels := by
  simp only [State.offer]; repeat' split
  all_goals simp
@[simp] theorem State.offer_lastGranted (i : Station) (x : Slip) : (s.offer i x).lastGranted = s.lastGranted := by
  simp only [State.offer]; repeat' split
  all_goals simp
@[simp] theorem State.offer_engine (i : Station) (x : Slip) : (s.offer i x).engine = s.engine := by
  simp only [State.offer]; repeat' split
  all_goals simp
@[simp] theorem State.offer_loans (i : Station) (x : Slip) : (s.offer i x).loans = s.loans := by
  simp only [State.offer]; repeat' split
  all_goals simp
@[simp] theorem State.offer_tables (i : Station) (x : Slip) : (s.offer i x).tables = s.tables := by
  simp only [State.offer]; repeat' split
  all_goals simp
@[simp] theorem State.offer_clock (i : Station) (x : Slip) : (s.offer i x).clock = s.clock := by
  simp only [State.offer]; repeat' split
  all_goals simp
@[simp] theorem State.offer_link (i : Station) (x : Slip) : (s.offer i x).link = s.link := by
  simp only [State.offer]; repeat' split
  all_goals simp
@[simp] theorem State.offer_config (i : Station) (x : Slip) : (s.offer i x).config = s.config := by
  simp only [State.offer]; repeat' split
  all_goals simp
@[simp] theorem State.offer_configStore (i : Station) (x : Slip) : (s.offer i x).configStore = s.configStore := by
  simp only [State.offer]; repeat' split
  all_goals simp

/-! ### A close begun (R43) -/

@[simp] theorem State.beginClose_pending (i : Station) (o : Option OutcomeKind) : (s.beginClose i o).pending = s.pending := by
  simp only [State.beginClose]; repeat' split
  all_goals simp
@[simp] theorem State.beginClose_draws (i : Station) (o : Option OutcomeKind) : (s.beginClose i o).draws = s.draws := by
  simp only [State.beginClose]; repeat' split
  all_goals simp
@[simp] theorem State.beginClose_life (i : Station) (o : Option OutcomeKind) : (s.beginClose i o).life = s.life := by
  simp only [State.beginClose]; repeat' split
  all_goals simp
@[simp] theorem State.beginClose_phase (i : Station) (o : Option OutcomeKind) : (s.beginClose i o).phase = s.phase := by
  simp only [State.beginClose]; repeat' split
  all_goals simp
@[simp] theorem State.beginClose_startCause (i : Station) (o : Option OutcomeKind) : (s.beginClose i o).startCause = s.startCause := by
  simp only [State.beginClose]; repeat' split
  all_goals simp
@[simp] theorem State.beginClose_heldCause (i : Station) (o : Option OutcomeKind) : (s.beginClose i o).heldCause = s.heldCause := by
  simp only [State.beginClose]; repeat' split
  all_goals simp
@[simp] theorem State.beginClose_pins (i : Station) (o : Option OutcomeKind) : (s.beginClose i o).pins = s.pins := by
  simp only [State.beginClose]; repeat' split
  all_goals simp
@[simp] theorem State.beginClose_ready (i : Station) (o : Option OutcomeKind) : (s.beginClose i o).ready = s.ready := by
  simp only [State.beginClose]; repeat' split
  all_goals simp
@[simp] theorem State.beginClose_resetLine (i : Station) (o : Option OutcomeKind) : (s.beginClose i o).resetLine = s.resetLine := by
  simp only [State.beginClose]; repeat' split
  all_goals simp
@[simp] theorem State.beginClose_levels (i : Station) (o : Option OutcomeKind) : (s.beginClose i o).levels = s.levels := by
  simp only [State.beginClose]; repeat' split
  all_goals simp
@[simp] theorem State.beginClose_lastGranted (i : Station) (o : Option OutcomeKind) : (s.beginClose i o).lastGranted = s.lastGranted := by
  simp only [State.beginClose]; repeat' split
  all_goals simp
@[simp] theorem State.beginClose_engine (i : Station) (o : Option OutcomeKind) : (s.beginClose i o).engine = s.engine := by
  simp only [State.beginClose]; repeat' split
  all_goals simp
@[simp] theorem State.beginClose_loans (i : Station) (o : Option OutcomeKind) : (s.beginClose i o).loans = s.loans := by
  simp only [State.beginClose]; repeat' split
  all_goals simp
@[simp] theorem State.beginClose_tables (i : Station) (o : Option OutcomeKind) : (s.beginClose i o).tables = s.tables := by
  simp only [State.beginClose]; repeat' split
  all_goals simp
@[simp] theorem State.beginClose_clock (i : Station) (o : Option OutcomeKind) : (s.beginClose i o).clock = s.clock := by
  simp only [State.beginClose]; repeat' split
  all_goals simp
@[simp] theorem State.beginClose_link (i : Station) (o : Option OutcomeKind) : (s.beginClose i o).link = s.link := by
  simp only [State.beginClose]; repeat' split
  all_goals simp
@[simp] theorem State.beginClose_config (i : Station) (o : Option OutcomeKind) : (s.beginClose i o).config = s.config := by
  simp only [State.beginClose]; repeat' split
  all_goals simp
@[simp] theorem State.beginClose_configStore (i : Station) (o : Option OutcomeKind) : (s.beginClose i o).configStore = s.configStore := by
  simp only [State.beginClose]; repeat' split
  all_goals simp

/-! ### A close asked for from outside (R25, R26) -/

@[simp] theorem State.closeFromOutside_pending (i : Station) : (s.closeFromOutside i).pending = s.pending := by
  simp only [State.closeFromOutside]; repeat' split
  all_goals simp
@[simp] theorem State.closeFromOutside_draws (i : Station) : (s.closeFromOutside i).draws = s.draws := by
  simp only [State.closeFromOutside]; repeat' split
  all_goals simp
@[simp] theorem State.closeFromOutside_life (i : Station) : (s.closeFromOutside i).life = s.life := by
  simp only [State.closeFromOutside]; repeat' split
  all_goals simp
@[simp] theorem State.closeFromOutside_phase (i : Station) : (s.closeFromOutside i).phase = s.phase := by
  simp only [State.closeFromOutside]; repeat' split
  all_goals simp
@[simp] theorem State.closeFromOutside_startCause (i : Station) : (s.closeFromOutside i).startCause = s.startCause := by
  simp only [State.closeFromOutside]; repeat' split
  all_goals simp
@[simp] theorem State.closeFromOutside_heldCause (i : Station) : (s.closeFromOutside i).heldCause = s.heldCause := by
  simp only [State.closeFromOutside]; repeat' split
  all_goals simp
@[simp] theorem State.closeFromOutside_pins (i : Station) : (s.closeFromOutside i).pins = s.pins := by
  simp only [State.closeFromOutside]; repeat' split
  all_goals simp
@[simp] theorem State.closeFromOutside_ready (i : Station) : (s.closeFromOutside i).ready = s.ready := by
  simp only [State.closeFromOutside]; repeat' split
  all_goals simp
@[simp] theorem State.closeFromOutside_resetLine (i : Station) : (s.closeFromOutside i).resetLine = s.resetLine := by
  simp only [State.closeFromOutside]; repeat' split
  all_goals simp
@[simp] theorem State.closeFromOutside_levels (i : Station) : (s.closeFromOutside i).levels = s.levels := by
  simp only [State.closeFromOutside]; repeat' split
  all_goals simp
@[simp] theorem State.closeFromOutside_lastGranted (i : Station) : (s.closeFromOutside i).lastGranted = s.lastGranted := by
  simp only [State.closeFromOutside]; repeat' split
  all_goals simp
@[simp] theorem State.closeFromOutside_engine (i : Station) : (s.closeFromOutside i).engine = s.engine := by
  simp only [State.closeFromOutside]; repeat' split
  all_goals simp
@[simp] theorem State.closeFromOutside_loans (i : Station) : (s.closeFromOutside i).loans = s.loans := by
  simp only [State.closeFromOutside]; repeat' split
  all_goals simp
@[simp] theorem State.closeFromOutside_tables (i : Station) : (s.closeFromOutside i).tables = s.tables := by
  simp only [State.closeFromOutside]; repeat' split
  all_goals simp
@[simp] theorem State.closeFromOutside_clock (i : Station) : (s.closeFromOutside i).clock = s.clock := by
  simp only [State.closeFromOutside]; repeat' split
  all_goals simp
@[simp] theorem State.closeFromOutside_link (i : Station) : (s.closeFromOutside i).link = s.link := by
  simp only [State.closeFromOutside]; repeat' split
  all_goals simp
@[simp] theorem State.closeFromOutside_config (i : Station) : (s.closeFromOutside i).config = s.config := by
  simp only [State.closeFromOutside]; repeat' split
  all_goals simp
@[simp] theorem State.closeFromOutside_configStore (i : Station) : (s.closeFromOutside i).configStore = s.configStore := by
  simp only [State.closeFromOutside]; repeat' split
  all_goals simp

/-! ### A change of mode (R25) -/

@[simp] theorem State.modeChanged_pending (i : Station) (m : Mode) : (s.modeChanged i m).pending = s.pending := by
  simp only [State.modeChanged]; repeat' split
  all_goals simp
@[simp] theorem State.modeChanged_draws (i : Station) (m : Mode) : (s.modeChanged i m).draws = s.draws := by
  simp only [State.modeChanged]; repeat' split
  all_goals simp
@[simp] theorem State.modeChanged_life (i : Station) (m : Mode) : (s.modeChanged i m).life = s.life := by
  simp only [State.modeChanged]; repeat' split
  all_goals simp
@[simp] theorem State.modeChanged_phase (i : Station) (m : Mode) : (s.modeChanged i m).phase = s.phase := by
  simp only [State.modeChanged]; repeat' split
  all_goals simp
@[simp] theorem State.modeChanged_startCause (i : Station) (m : Mode) : (s.modeChanged i m).startCause = s.startCause := by
  simp only [State.modeChanged]; repeat' split
  all_goals simp
@[simp] theorem State.modeChanged_heldCause (i : Station) (m : Mode) : (s.modeChanged i m).heldCause = s.heldCause := by
  simp only [State.modeChanged]; repeat' split
  all_goals simp
@[simp] theorem State.modeChanged_pins (i : Station) (m : Mode) : (s.modeChanged i m).pins = s.pins := by
  simp only [State.modeChanged]; repeat' split
  all_goals simp
@[simp] theorem State.modeChanged_ready (i : Station) (m : Mode) : (s.modeChanged i m).ready = s.ready := by
  simp only [State.modeChanged]; repeat' split
  all_goals simp
@[simp] theorem State.modeChanged_resetLine (i : Station) (m : Mode) : (s.modeChanged i m).resetLine = s.resetLine := by
  simp only [State.modeChanged]; repeat' split
  all_goals simp
@[simp] theorem State.modeChanged_levels (i : Station) (m : Mode) : (s.modeChanged i m).levels = s.levels := by
  simp only [State.modeChanged]; repeat' split
  all_goals simp
@[simp] theorem State.modeChanged_lastGranted (i : Station) (m : Mode) : (s.modeChanged i m).lastGranted = s.lastGranted := by
  simp only [State.modeChanged]; repeat' split
  all_goals simp
@[simp] theorem State.modeChanged_engine (i : Station) (m : Mode) : (s.modeChanged i m).engine = s.engine := by
  simp only [State.modeChanged]; repeat' split
  all_goals simp
@[simp] theorem State.modeChanged_loans (i : Station) (m : Mode) : (s.modeChanged i m).loans = s.loans := by
  simp only [State.modeChanged]; repeat' split
  all_goals simp
@[simp] theorem State.modeChanged_tables (i : Station) (m : Mode) : (s.modeChanged i m).tables = s.tables := by
  simp only [State.modeChanged]; repeat' split
  all_goals simp
@[simp] theorem State.modeChanged_clock (i : Station) (m : Mode) : (s.modeChanged i m).clock = s.clock := by
  simp only [State.modeChanged]; repeat' split
  all_goals simp
@[simp] theorem State.modeChanged_link (i : Station) (m : Mode) : (s.modeChanged i m).link = s.link := by
  simp only [State.modeChanged]; repeat' split
  all_goals simp
@[simp] theorem State.modeChanged_config (i : Station) (m : Mode) : (s.modeChanged i m).config = s.config := by
  simp only [State.modeChanged]; repeat' split
  all_goals simp
@[simp] theorem State.modeChanged_configStore (i : Station) (m : Mode) : (s.modeChanged i m).configStore = s.configStore := by
  simp only [State.modeChanged]; repeat' split
  all_goals simp

/-! ### A configured mode set (R24) -/

@[simp] theorem State.setMode_pending (i : Station) (m : Mode) : (s.setMode i m).pending = s.pending := by simp [State.setMode]
@[simp] theorem State.setMode_draws (i : Station) (m : Mode) : (s.setMode i m).draws = s.draws := by simp [State.setMode]
@[simp] theorem State.setMode_life (i : Station) (m : Mode) : (s.setMode i m).life = s.life := by simp [State.setMode]
@[simp] theorem State.setMode_phase (i : Station) (m : Mode) : (s.setMode i m).phase = s.phase := by simp [State.setMode]
@[simp] theorem State.setMode_startCause (i : Station) (m : Mode) : (s.setMode i m).startCause = s.startCause := by simp [State.setMode]
@[simp] theorem State.setMode_heldCause (i : Station) (m : Mode) : (s.setMode i m).heldCause = s.heldCause := by simp [State.setMode]
@[simp] theorem State.setMode_pins (i : Station) (m : Mode) : (s.setMode i m).pins = s.pins := by simp [State.setMode]
@[simp] theorem State.setMode_ready (i : Station) (m : Mode) : (s.setMode i m).ready = s.ready := by simp [State.setMode]
@[simp] theorem State.setMode_resetLine (i : Station) (m : Mode) : (s.setMode i m).resetLine = s.resetLine := by simp [State.setMode]
@[simp] theorem State.setMode_levels (i : Station) (m : Mode) : (s.setMode i m).levels = s.levels := by simp [State.setMode]
@[simp] theorem State.setMode_lastGranted (i : Station) (m : Mode) : (s.setMode i m).lastGranted = s.lastGranted := by simp [State.setMode]
@[simp] theorem State.setMode_engine (i : Station) (m : Mode) : (s.setMode i m).engine = s.engine := by simp [State.setMode]
@[simp] theorem State.setMode_loans (i : Station) (m : Mode) : (s.setMode i m).loans = s.loans := by simp [State.setMode]
@[simp] theorem State.setMode_tables (i : Station) (m : Mode) : (s.setMode i m).tables = s.tables := by simp [State.setMode]
@[simp] theorem State.setMode_clock (i : Station) (m : Mode) : (s.setMode i m).clock = s.clock := by simp [State.setMode]
@[simp] theorem State.setMode_link (i : Station) (m : Mode) : (s.setMode i m).link = s.link := by simp [State.setMode]
@[simp] theorem State.setMode_configStore (i : Station) (m : Mode) : (s.setMode i m).configStore = s.configStore := by simp [State.setMode]

/-! ### A scan taken (R29) -/

@[simp] theorem State.takeScan_pending (i : Station) (x : ScanRecord) : (s.takeScan i x).pending = s.pending := by
  simp only [State.takeScan]; repeat' split
  all_goals simp
@[simp] theorem State.takeScan_draws (i : Station) (x : ScanRecord) : (s.takeScan i x).draws = s.draws := by
  simp only [State.takeScan]; repeat' split
  all_goals simp
@[simp] theorem State.takeScan_life (i : Station) (x : ScanRecord) : (s.takeScan i x).life = s.life := by
  simp only [State.takeScan]; repeat' split
  all_goals simp
@[simp] theorem State.takeScan_phase (i : Station) (x : ScanRecord) : (s.takeScan i x).phase = s.phase := by
  simp only [State.takeScan]; repeat' split
  all_goals simp
@[simp] theorem State.takeScan_startCause (i : Station) (x : ScanRecord) : (s.takeScan i x).startCause = s.startCause := by
  simp only [State.takeScan]; repeat' split
  all_goals simp
@[simp] theorem State.takeScan_heldCause (i : Station) (x : ScanRecord) : (s.takeScan i x).heldCause = s.heldCause := by
  simp only [State.takeScan]; repeat' split
  all_goals simp
@[simp] theorem State.takeScan_pins (i : Station) (x : ScanRecord) : (s.takeScan i x).pins = s.pins := by
  simp only [State.takeScan]; repeat' split
  all_goals simp
@[simp] theorem State.takeScan_ready (i : Station) (x : ScanRecord) : (s.takeScan i x).ready = s.ready := by
  simp only [State.takeScan]; repeat' split
  all_goals simp
@[simp] theorem State.takeScan_resetLine (i : Station) (x : ScanRecord) : (s.takeScan i x).resetLine = s.resetLine := by
  simp only [State.takeScan]; repeat' split
  all_goals simp
@[simp] theorem State.takeScan_levels (i : Station) (x : ScanRecord) : (s.takeScan i x).levels = s.levels := by
  simp only [State.takeScan]; repeat' split
  all_goals simp
@[simp] theorem State.takeScan_lastGranted (i : Station) (x : ScanRecord) : (s.takeScan i x).lastGranted = s.lastGranted := by
  simp only [State.takeScan]; repeat' split
  all_goals simp
@[simp] theorem State.takeScan_engine (i : Station) (x : ScanRecord) : (s.takeScan i x).engine = s.engine := by
  simp only [State.takeScan]; repeat' split
  all_goals simp
@[simp] theorem State.takeScan_loans (i : Station) (x : ScanRecord) : (s.takeScan i x).loans = s.loans := by
  simp only [State.takeScan]; repeat' split
  all_goals simp
@[simp] theorem State.takeScan_tables (i : Station) (x : ScanRecord) : (s.takeScan i x).tables = s.tables := by
  simp only [State.takeScan]; repeat' split
  all_goals simp
@[simp] theorem State.takeScan_journal (i : Station) (x : ScanRecord) : (s.takeScan i x).journal = s.journal := by
  simp only [State.takeScan]; repeat' split
  all_goals simp
@[simp] theorem State.takeScan_clock (i : Station) (x : ScanRecord) : (s.takeScan i x).clock = s.clock := by
  simp only [State.takeScan]; repeat' split
  all_goals simp
@[simp] theorem State.takeScan_slips (i : Station) (x : ScanRecord) : (s.takeScan i x).slips = s.slips := by
  simp only [State.takeScan]; repeat' split
  all_goals simp
@[simp] theorem State.takeScan_link (i : Station) (x : ScanRecord) : (s.takeScan i x).link = s.link := by
  simp only [State.takeScan]; repeat' split
  all_goals simp
@[simp] theorem State.takeScan_config (i : Station) (x : ScanRecord) : (s.takeScan i x).config = s.config := by
  simp only [State.takeScan]; repeat' split
  all_goals simp
@[simp] theorem State.takeScan_configStore (i : Station) (x : ScanRecord) : (s.takeScan i x).configStore = s.configStore := by
  simp only [State.takeScan]; repeat' split
  all_goals simp
@[simp] theorem State.takeScan_latched (i : Station) (x : ScanRecord) : (s.takeScan i x).latched = s.latched := by
  simp only [State.takeScan]; repeat' split
  all_goals simp

/-! ### The idle timer restarted (R35) -/

@[simp] theorem State.restartIdle_pending (i : Station) : (s.restartIdle i).pending = s.pending := rfl
@[simp] theorem State.restartIdle_draws (i : Station) : (s.restartIdle i).draws = s.draws := rfl
@[simp] theorem State.restartIdle_life (i : Station) : (s.restartIdle i).life = s.life := rfl
@[simp] theorem State.restartIdle_phase (i : Station) : (s.restartIdle i).phase = s.phase := rfl
@[simp] theorem State.restartIdle_startCause (i : Station) : (s.restartIdle i).startCause = s.startCause := rfl
@[simp] theorem State.restartIdle_heldCause (i : Station) : (s.restartIdle i).heldCause = s.heldCause := rfl
@[simp] theorem State.restartIdle_pins (i : Station) : (s.restartIdle i).pins = s.pins := rfl
@[simp] theorem State.restartIdle_ready (i : Station) : (s.restartIdle i).ready = s.ready := rfl
@[simp] theorem State.restartIdle_resetLine (i : Station) : (s.restartIdle i).resetLine = s.resetLine := rfl
@[simp] theorem State.restartIdle_levels (i : Station) : (s.restartIdle i).levels = s.levels := rfl
@[simp] theorem State.restartIdle_channels (i : Station) : (s.restartIdle i).channels = s.channels := rfl
@[simp] theorem State.restartIdle_lastGranted (i : Station) : (s.restartIdle i).lastGranted = s.lastGranted := rfl
@[simp] theorem State.restartIdle_engine (i : Station) : (s.restartIdle i).engine = s.engine := rfl
@[simp] theorem State.restartIdle_loans (i : Station) : (s.restartIdle i).loans = s.loans := rfl
@[simp] theorem State.restartIdle_tables (i : Station) : (s.restartIdle i).tables = s.tables := rfl
@[simp] theorem State.restartIdle_journal (i : Station) : (s.restartIdle i).journal = s.journal := rfl
@[simp] theorem State.restartIdle_clock (i : Station) : (s.restartIdle i).clock = s.clock := rfl
@[simp] theorem State.restartIdle_slips (i : Station) : (s.restartIdle i).slips = s.slips := rfl
@[simp] theorem State.restartIdle_link (i : Station) : (s.restartIdle i).link = s.link := rfl
@[simp] theorem State.restartIdle_config (i : Station) : (s.restartIdle i).config = s.config := rfl
@[simp] theorem State.restartIdle_configStore (i : Station) : (s.restartIdle i).configStore = s.configStore := rfl
@[simp] theorem State.restartIdle_latched (i : Station) : (s.restartIdle i).latched = s.latched := rfl

/-! ### A scan sent to the engine (R29, R48) -/

@[simp] theorem State.sendToEngine_pending (i : Station) (x : ScanRecord) (t : Task) (c : RequestClass) : (s.sendToEngine i x t c).pending = s.pending := rfl
@[simp] theorem State.sendToEngine_draws (i : Station) (x : ScanRecord) (t : Task) (c : RequestClass) : (s.sendToEngine i x t c).draws = s.draws := rfl
@[simp] theorem State.sendToEngine_life (i : Station) (x : ScanRecord) (t : Task) (c : RequestClass) : (s.sendToEngine i x t c).life = s.life := rfl
@[simp] theorem State.sendToEngine_phase (i : Station) (x : ScanRecord) (t : Task) (c : RequestClass) : (s.sendToEngine i x t c).phase = s.phase := rfl
@[simp] theorem State.sendToEngine_startCause (i : Station) (x : ScanRecord) (t : Task) (c : RequestClass) : (s.sendToEngine i x t c).startCause = s.startCause := rfl
@[simp] theorem State.sendToEngine_heldCause (i : Station) (x : ScanRecord) (t : Task) (c : RequestClass) : (s.sendToEngine i x t c).heldCause = s.heldCause := rfl
@[simp] theorem State.sendToEngine_pins (i : Station) (x : ScanRecord) (t : Task) (c : RequestClass) : (s.sendToEngine i x t c).pins = s.pins := rfl
@[simp] theorem State.sendToEngine_ready (i : Station) (x : ScanRecord) (t : Task) (c : RequestClass) : (s.sendToEngine i x t c).ready = s.ready := rfl
@[simp] theorem State.sendToEngine_resetLine (i : Station) (x : ScanRecord) (t : Task) (c : RequestClass) : (s.sendToEngine i x t c).resetLine = s.resetLine := rfl
@[simp] theorem State.sendToEngine_levels (i : Station) (x : ScanRecord) (t : Task) (c : RequestClass) : (s.sendToEngine i x t c).levels = s.levels := rfl
@[simp] theorem State.sendToEngine_channels (i : Station) (x : ScanRecord) (t : Task) (c : RequestClass) : (s.sendToEngine i x t c).channels = s.channels := rfl
@[simp] theorem State.sendToEngine_sessions (i : Station) (x : ScanRecord) (t : Task) (c : RequestClass) : (s.sendToEngine i x t c).sessions = s.sessions := rfl
@[simp] theorem State.sendToEngine_lastGranted (i : Station) (x : ScanRecord) (t : Task) (c : RequestClass) : (s.sendToEngine i x t c).lastGranted = s.lastGranted := rfl
@[simp] theorem State.sendToEngine_loans (i : Station) (x : ScanRecord) (t : Task) (c : RequestClass) : (s.sendToEngine i x t c).loans = s.loans := rfl
@[simp] theorem State.sendToEngine_tables (i : Station) (x : ScanRecord) (t : Task) (c : RequestClass) : (s.sendToEngine i x t c).tables = s.tables := rfl
@[simp] theorem State.sendToEngine_clock (i : Station) (x : ScanRecord) (t : Task) (c : RequestClass) : (s.sendToEngine i x t c).clock = s.clock := rfl
@[simp] theorem State.sendToEngine_slips (i : Station) (x : ScanRecord) (t : Task) (c : RequestClass) : (s.sendToEngine i x t c).slips = s.slips := rfl
@[simp] theorem State.sendToEngine_link (i : Station) (x : ScanRecord) (t : Task) (c : RequestClass) : (s.sendToEngine i x t c).link = s.link := rfl
@[simp] theorem State.sendToEngine_config (i : Station) (x : ScanRecord) (t : Task) (c : RequestClass) : (s.sendToEngine i x t c).config = s.config := rfl
@[simp] theorem State.sendToEngine_configStore (i : Station) (x : ScanRecord) (t : Task) (c : RequestClass) : (s.sendToEngine i x t c).configStore = s.configStore := rfl
@[simp] theorem State.sendToEngine_latched (i : Station) (x : ScanRecord) (t : Task) (c : RequestClass) : (s.sendToEngine i x t c).latched = s.latched := rfl

/-! ### A condition cleared (R189) -/

@[simp] theorem State.clearCondition_pending (c : Condition) : (s.clearCondition c).pending = s.pending := by
  simp only [State.clearCondition]; repeat' split
  all_goals simp
@[simp] theorem State.clearCondition_draws (c : Condition) : (s.clearCondition c).draws = s.draws := by
  simp only [State.clearCondition]; repeat' split
  all_goals simp
@[simp] theorem State.clearCondition_life (c : Condition) : (s.clearCondition c).life = s.life := by
  simp only [State.clearCondition]; repeat' split
  all_goals simp
@[simp] theorem State.clearCondition_phase (c : Condition) : (s.clearCondition c).phase = s.phase := by
  simp only [State.clearCondition]; repeat' split
  all_goals simp
@[simp] theorem State.clearCondition_startCause (c : Condition) : (s.clearCondition c).startCause = s.startCause := by
  simp only [State.clearCondition]; repeat' split
  all_goals simp
@[simp] theorem State.clearCondition_heldCause (c : Condition) : (s.clearCondition c).heldCause = s.heldCause := by
  simp only [State.clearCondition]; repeat' split
  all_goals simp
@[simp] theorem State.clearCondition_pins (c : Condition) : (s.clearCondition c).pins = s.pins := by
  simp only [State.clearCondition]; repeat' split
  all_goals simp
@[simp] theorem State.clearCondition_ready (c : Condition) : (s.clearCondition c).ready = s.ready := by
  simp only [State.clearCondition]; repeat' split
  all_goals simp
@[simp] theorem State.clearCondition_resetLine (c : Condition) : (s.clearCondition c).resetLine = s.resetLine := by
  simp only [State.clearCondition]; repeat' split
  all_goals simp
@[simp] theorem State.clearCondition_levels (c : Condition) : (s.clearCondition c).levels = s.levels := by
  simp only [State.clearCondition]; repeat' split
  all_goals simp
@[simp] theorem State.clearCondition_sessions (c : Condition) : (s.clearCondition c).sessions = s.sessions := by
  simp only [State.clearCondition]; repeat' split
  all_goals simp
@[simp] theorem State.clearCondition_lastGranted (c : Condition) : (s.clearCondition c).lastGranted = s.lastGranted := by
  simp only [State.clearCondition]; repeat' split
  all_goals simp
@[simp] theorem State.clearCondition_engine (c : Condition) : (s.clearCondition c).engine = s.engine := by
  simp only [State.clearCondition]; repeat' split
  all_goals simp
@[simp] theorem State.clearCondition_loans (c : Condition) : (s.clearCondition c).loans = s.loans := by
  simp only [State.clearCondition]; repeat' split
  all_goals simp
@[simp] theorem State.clearCondition_tables (c : Condition) : (s.clearCondition c).tables = s.tables := by
  simp only [State.clearCondition]; repeat' split
  all_goals simp
@[simp] theorem State.clearCondition_journal (c : Condition) : (s.clearCondition c).journal = s.journal := by
  simp only [State.clearCondition]; repeat' split
  all_goals simp
@[simp] theorem State.clearCondition_clock (c : Condition) : (s.clearCondition c).clock = s.clock := by
  simp only [State.clearCondition]; repeat' split
  all_goals simp
@[simp] theorem State.clearCondition_slips (c : Condition) : (s.clearCondition c).slips = s.slips := by
  simp only [State.clearCondition]; repeat' split
  all_goals simp
@[simp] theorem State.clearCondition_config (c : Condition) : (s.clearCondition c).config = s.config := by
  simp only [State.clearCondition]; repeat' split
  all_goals simp
@[simp] theorem State.clearCondition_configStore (c : Condition) : (s.clearCondition c).configStore = s.configStore := by
  simp only [State.clearCondition]; repeat' split
  all_goals simp

/-- A fold of condition clears leaves what one clear leaves. -/
theorem State.clear_fold {α : Type} (f : State → α) (h : ∀ t c, f (State.clearCondition t c) = f t) (cs : List Condition) :
    ∀ t : State, f (cs.foldl State.clearCondition t) = f t := by
  induction cs with
  | nil => intro t; rfl
  | cons c rest ih => intro t; exact (ih _).trans (h t c)

/-! ### Conditions cleared (R189) -/

@[simp] theorem State.clearConditions_pending (m : BitVec 32) : (s.clearConditions m).pending = s.pending := by
  simp only [State.clearConditions]; split
  · exact State.clear_fold (·.pending) (fun t c => State.clearCondition_pending t c) _ s
  · exact State.clear_fold (·.pending) (fun t c => State.clearCondition_pending t c) _ s
@[simp] theorem State.clearConditions_draws (m : BitVec 32) : (s.clearConditions m).draws = s.draws := by
  simp only [State.clearConditions]; split
  · exact State.clear_fold (·.draws) (fun t c => State.clearCondition_draws t c) _ s
  · exact State.clear_fold (·.draws) (fun t c => State.clearCondition_draws t c) _ s
@[simp] theorem State.clearConditions_life (m : BitVec 32) : (s.clearConditions m).life = s.life := by
  simp only [State.clearConditions]; split
  · exact State.clear_fold (·.life) (fun t c => State.clearCondition_life t c) _ s
  · exact State.clear_fold (·.life) (fun t c => State.clearCondition_life t c) _ s
@[simp] theorem State.clearConditions_phase (m : BitVec 32) : (s.clearConditions m).phase = s.phase := by
  simp only [State.clearConditions]; split
  · exact State.clear_fold (·.phase) (fun t c => State.clearCondition_phase t c) _ s
  · exact State.clear_fold (·.phase) (fun t c => State.clearCondition_phase t c) _ s
@[simp] theorem State.clearConditions_startCause (m : BitVec 32) : (s.clearConditions m).startCause = s.startCause := by
  simp only [State.clearConditions]; split
  · exact State.clear_fold (·.startCause) (fun t c => State.clearCondition_startCause t c) _ s
  · exact State.clear_fold (·.startCause) (fun t c => State.clearCondition_startCause t c) _ s
@[simp] theorem State.clearConditions_heldCause (m : BitVec 32) : (s.clearConditions m).heldCause = s.heldCause := by
  simp only [State.clearConditions]; split
  · exact State.clear_fold (·.heldCause) (fun t c => State.clearCondition_heldCause t c) _ s
  · exact State.clear_fold (·.heldCause) (fun t c => State.clearCondition_heldCause t c) _ s
@[simp] theorem State.clearConditions_pins (m : BitVec 32) : (s.clearConditions m).pins = s.pins := by
  simp only [State.clearConditions]; split
  · exact State.clear_fold (·.pins) (fun t c => State.clearCondition_pins t c) _ s
  · exact State.clear_fold (·.pins) (fun t c => State.clearCondition_pins t c) _ s
@[simp] theorem State.clearConditions_ready (m : BitVec 32) : (s.clearConditions m).ready = s.ready := by
  simp only [State.clearConditions]; split
  · exact State.clear_fold (·.ready) (fun t c => State.clearCondition_ready t c) _ s
  · exact State.clear_fold (·.ready) (fun t c => State.clearCondition_ready t c) _ s
@[simp] theorem State.clearConditions_resetLine (m : BitVec 32) : (s.clearConditions m).resetLine = s.resetLine := by
  simp only [State.clearConditions]; split
  · exact State.clear_fold (·.resetLine) (fun t c => State.clearCondition_resetLine t c) _ s
  · exact State.clear_fold (·.resetLine) (fun t c => State.clearCondition_resetLine t c) _ s
@[simp] theorem State.clearConditions_levels (m : BitVec 32) : (s.clearConditions m).levels = s.levels := by
  simp only [State.clearConditions]; split
  · exact State.clear_fold (·.levels) (fun t c => State.clearCondition_levels t c) _ s
  · exact State.clear_fold (·.levels) (fun t c => State.clearCondition_levels t c) _ s
@[simp] theorem State.clearConditions_sessions (m : BitVec 32) : (s.clearConditions m).sessions = s.sessions := by
  simp only [State.clearConditions]; split
  · exact State.clear_fold (·.sessions) (fun t c => State.clearCondition_sessions t c) _ s
  · exact State.clear_fold (·.sessions) (fun t c => State.clearCondition_sessions t c) _ s
@[simp] theorem State.clearConditions_lastGranted (m : BitVec 32) : (s.clearConditions m).lastGranted = s.lastGranted := by
  simp only [State.clearConditions]; split
  · exact State.clear_fold (·.lastGranted) (fun t c => State.clearCondition_lastGranted t c) _ s
  · exact State.clear_fold (·.lastGranted) (fun t c => State.clearCondition_lastGranted t c) _ s
@[simp] theorem State.clearConditions_loans (m : BitVec 32) : (s.clearConditions m).loans = s.loans := by
  simp only [State.clearConditions]; split
  · exact State.clear_fold (·.loans) (fun t c => State.clearCondition_loans t c) _ s
  · exact State.clear_fold (·.loans) (fun t c => State.clearCondition_loans t c) _ s
@[simp] theorem State.clearConditions_tables (m : BitVec 32) : (s.clearConditions m).tables = s.tables := by
  simp only [State.clearConditions]; split
  · exact State.clear_fold (·.tables) (fun t c => State.clearCondition_tables t c) _ s
  · exact State.clear_fold (·.tables) (fun t c => State.clearCondition_tables t c) _ s
@[simp] theorem State.clearConditions_journal (m : BitVec 32) : (s.clearConditions m).journal = s.journal := by
  simp only [State.clearConditions]; split
  · exact State.clear_fold (·.journal) (fun t c => State.clearCondition_journal t c) _ s
  · exact State.clear_fold (·.journal) (fun t c => State.clearCondition_journal t c) _ s
@[simp] theorem State.clearConditions_clock (m : BitVec 32) : (s.clearConditions m).clock = s.clock := by
  simp only [State.clearConditions]; split
  · exact State.clear_fold (·.clock) (fun t c => State.clearCondition_clock t c) _ s
  · exact State.clear_fold (·.clock) (fun t c => State.clearCondition_clock t c) _ s
@[simp] theorem State.clearConditions_slips (m : BitVec 32) : (s.clearConditions m).slips = s.slips := by
  simp only [State.clearConditions]; split
  · exact State.clear_fold (·.slips) (fun t c => State.clearCondition_slips t c) _ s
  · exact State.clear_fold (·.slips) (fun t c => State.clearCondition_slips t c) _ s
@[simp] theorem State.clearConditions_config (m : BitVec 32) : (s.clearConditions m).config = s.config := by
  simp only [State.clearConditions]; split
  · exact State.clear_fold (·.config) (fun t c => State.clearCondition_config t c) _ s
  · exact State.clear_fold (·.config) (fun t c => State.clearCondition_config t c) _ s
@[simp] theorem State.clearConditions_configStore (m : BitVec 32) : (s.clearConditions m).configStore = s.configStore := by
  simp only [State.clearConditions]; split
  · exact State.clear_fold (·.configStore) (fun t c => State.clearCondition_configStore t c) _ s
  · exact State.clear_fold (·.configStore) (fun t c => State.clearCondition_configStore t c) _ s

/-! ### Resume (R168) -/

@[simp] theorem State.resumePrinter_pending : (s.resumePrinter.2).pending = s.pending := by
  simp only [State.resumePrinter]; repeat' split
  all_goals simp
@[simp] theorem State.resumePrinter_draws : (s.resumePrinter.2).draws = s.draws := by
  simp only [State.resumePrinter]; repeat' split
  all_goals simp
@[simp] theorem State.resumePrinter_life : (s.resumePrinter.2).life = s.life := by
  simp only [State.resumePrinter]; repeat' split
  all_goals simp
@[simp] theorem State.resumePrinter_phase : (s.resumePrinter.2).phase = s.phase := by
  simp only [State.resumePrinter]; repeat' split
  all_goals simp
@[simp] theorem State.resumePrinter_startCause : (s.resumePrinter.2).startCause = s.startCause := by
  simp only [State.resumePrinter]; repeat' split
  all_goals simp
@[simp] theorem State.resumePrinter_heldCause : (s.resumePrinter.2).heldCause = s.heldCause := by
  simp only [State.resumePrinter]; repeat' split
  all_goals simp
@[simp] theorem State.resumePrinter_pins : (s.resumePrinter.2).pins = s.pins := by
  simp only [State.resumePrinter]; repeat' split
  all_goals simp
@[simp] theorem State.resumePrinter_ready : (s.resumePrinter.2).ready = s.ready := by
  simp only [State.resumePrinter]; repeat' split
  all_goals simp
@[simp] theorem State.resumePrinter_resetLine : (s.resumePrinter.2).resetLine = s.resetLine := by
  simp only [State.resumePrinter]; repeat' split
  all_goals simp
@[simp] theorem State.resumePrinter_levels : (s.resumePrinter.2).levels = s.levels := by
  simp only [State.resumePrinter]; repeat' split
  all_goals simp
@[simp] theorem State.resumePrinter_channels : (s.resumePrinter.2).channels = s.channels := by
  simp only [State.resumePrinter]; repeat' split
  all_goals simp
@[simp] theorem State.resumePrinter_sessions : (s.resumePrinter.2).sessions = s.sessions := by
  simp only [State.resumePrinter]; repeat' split
  all_goals simp
@[simp] theorem State.resumePrinter_lastGranted : (s.resumePrinter.2).lastGranted = s.lastGranted := by
  simp only [State.resumePrinter]; repeat' split
  all_goals simp
@[simp] theorem State.resumePrinter_engine : (s.resumePrinter.2).engine = s.engine := by
  simp only [State.resumePrinter]; repeat' split
  all_goals simp
@[simp] theorem State.resumePrinter_loans : (s.resumePrinter.2).loans = s.loans := by
  simp only [State.resumePrinter]; repeat' split
  all_goals simp
@[simp] theorem State.resumePrinter_tables : (s.resumePrinter.2).tables = s.tables := by
  simp only [State.resumePrinter]; repeat' split
  all_goals simp
@[simp] theorem State.resumePrinter_journal : (s.resumePrinter.2).journal = s.journal := by
  simp only [State.resumePrinter]; repeat' split
  all_goals simp
@[simp] theorem State.resumePrinter_clock : (s.resumePrinter.2).clock = s.clock := by
  simp only [State.resumePrinter]; repeat' split
  all_goals simp
@[simp] theorem State.resumePrinter_link : (s.resumePrinter.2).link = s.link := by
  simp only [State.resumePrinter]; repeat' split
  all_goals simp
@[simp] theorem State.resumePrinter_config : (s.resumePrinter.2).config = s.config := by
  simp only [State.resumePrinter]; repeat' split
  all_goals simp
@[simp] theorem State.resumePrinter_configStore : (s.resumePrinter.2).configStore = s.configStore := by
  simp only [State.resumePrinter]; repeat' split
  all_goals simp
@[simp] theorem State.resumePrinter_latched : (s.resumePrinter.2).latched = s.latched := by
  simp only [State.resumePrinter]; repeat' split
  all_goals simp

/-! ### Reprint (R170) -/

@[simp] theorem State.reprint_pending : (s.reprint.2).pending = s.pending := rfl
@[simp] theorem State.reprint_draws : (s.reprint.2).draws = s.draws := rfl
@[simp] theorem State.reprint_life : (s.reprint.2).life = s.life := rfl
@[simp] theorem State.reprint_phase : (s.reprint.2).phase = s.phase := rfl
@[simp] theorem State.reprint_startCause : (s.reprint.2).startCause = s.startCause := rfl
@[simp] theorem State.reprint_heldCause : (s.reprint.2).heldCause = s.heldCause := rfl
@[simp] theorem State.reprint_pins : (s.reprint.2).pins = s.pins := rfl
@[simp] theorem State.reprint_ready : (s.reprint.2).ready = s.ready := rfl
@[simp] theorem State.reprint_resetLine : (s.reprint.2).resetLine = s.resetLine := rfl
@[simp] theorem State.reprint_levels : (s.reprint.2).levels = s.levels := rfl
@[simp] theorem State.reprint_channels : (s.reprint.2).channels = s.channels := rfl
@[simp] theorem State.reprint_sessions : (s.reprint.2).sessions = s.sessions := rfl
@[simp] theorem State.reprint_lastGranted : (s.reprint.2).lastGranted = s.lastGranted := rfl
@[simp] theorem State.reprint_engine : (s.reprint.2).engine = s.engine := rfl
@[simp] theorem State.reprint_loans : (s.reprint.2).loans = s.loans := rfl
@[simp] theorem State.reprint_tables : (s.reprint.2).tables = s.tables := rfl
@[simp] theorem State.reprint_journal : (s.reprint.2).journal = s.journal := rfl
@[simp] theorem State.reprint_clock : (s.reprint.2).clock = s.clock := rfl
@[simp] theorem State.reprint_link : (s.reprint.2).link = s.link := rfl
@[simp] theorem State.reprint_config : (s.reprint.2).config = s.config := rfl
@[simp] theorem State.reprint_configStore : (s.reprint.2).configStore = s.configStore := rfl
@[simp] theorem State.reprint_latched : (s.reprint.2).latched = s.latched := rfl

/-! ### A command card's action (R42) -/

@[simp] theorem State.command_pending (i : Station) (n : Nat) : (s.command i n).pending = s.pending := by
  simp only [State.command]; repeat' split
  all_goals simp
@[simp] theorem State.command_draws (i : Station) (n : Nat) : (s.command i n).draws = s.draws := by
  simp only [State.command]; repeat' split
  all_goals simp
@[simp] theorem State.command_life (i : Station) (n : Nat) : (s.command i n).life = s.life := by
  simp only [State.command]; repeat' split
  all_goals simp
@[simp] theorem State.command_phase (i : Station) (n : Nat) : (s.command i n).phase = s.phase := by
  simp only [State.command]; repeat' split
  all_goals simp
@[simp] theorem State.command_startCause (i : Station) (n : Nat) : (s.command i n).startCause = s.startCause := by
  simp only [State.command]; repeat' split
  all_goals simp
@[simp] theorem State.command_heldCause (i : Station) (n : Nat) : (s.command i n).heldCause = s.heldCause := by
  simp only [State.command]; repeat' split
  all_goals simp
@[simp] theorem State.command_pins (i : Station) (n : Nat) : (s.command i n).pins = s.pins := by
  simp only [State.command]; repeat' split
  all_goals simp
@[simp] theorem State.command_ready (i : Station) (n : Nat) : (s.command i n).ready = s.ready := by
  simp only [State.command]; repeat' split
  all_goals simp
@[simp] theorem State.command_resetLine (i : Station) (n : Nat) : (s.command i n).resetLine = s.resetLine := by
  simp only [State.command]; repeat' split
  all_goals simp
@[simp] theorem State.command_levels (i : Station) (n : Nat) : (s.command i n).levels = s.levels := by
  simp only [State.command]; repeat' split
  all_goals simp
@[simp] theorem State.command_lastGranted (i : Station) (n : Nat) : (s.command i n).lastGranted = s.lastGranted := by
  simp only [State.command]; repeat' split
  all_goals simp
@[simp] theorem State.command_loans (i : Station) (n : Nat) : (s.command i n).loans = s.loans := by
  simp only [State.command]; repeat' split
  all_goals simp
@[simp] theorem State.command_tables (i : Station) (n : Nat) : (s.command i n).tables = s.tables := by
  simp only [State.command]; repeat' split
  all_goals simp
@[simp] theorem State.command_clock (i : Station) (n : Nat) : (s.command i n).clock = s.clock := by
  simp only [State.command]; repeat' split
  all_goals simp
@[simp] theorem State.command_configStore (i : Station) (n : Nat) : (s.command i n).configStore = s.configStore := by
  simp only [State.command]; repeat' split
  all_goals simp

/-! ### A command card (R41) -/

@[simp] theorem State.commandCard_pending (i : Station) (n : Nat) : (s.commandCard i n).pending = s.pending := by
  simp only [State.commandCard]; repeat' split
  all_goals simp
@[simp] theorem State.commandCard_draws (i : Station) (n : Nat) : (s.commandCard i n).draws = s.draws := by
  simp only [State.commandCard]; repeat' split
  all_goals simp
@[simp] theorem State.commandCard_life (i : Station) (n : Nat) : (s.commandCard i n).life = s.life := by
  simp only [State.commandCard]; repeat' split
  all_goals simp
@[simp] theorem State.commandCard_phase (i : Station) (n : Nat) : (s.commandCard i n).phase = s.phase := by
  simp only [State.commandCard]; repeat' split
  all_goals simp
@[simp] theorem State.commandCard_startCause (i : Station) (n : Nat) : (s.commandCard i n).startCause = s.startCause := by
  simp only [State.commandCard]; repeat' split
  all_goals simp
@[simp] theorem State.commandCard_heldCause (i : Station) (n : Nat) : (s.commandCard i n).heldCause = s.heldCause := by
  simp only [State.commandCard]; repeat' split
  all_goals simp
@[simp] theorem State.commandCard_pins (i : Station) (n : Nat) : (s.commandCard i n).pins = s.pins := by
  simp only [State.commandCard]; repeat' split
  all_goals simp
@[simp] theorem State.commandCard_ready (i : Station) (n : Nat) : (s.commandCard i n).ready = s.ready := by
  simp only [State.commandCard]; repeat' split
  all_goals simp
@[simp] theorem State.commandCard_resetLine (i : Station) (n : Nat) : (s.commandCard i n).resetLine = s.resetLine := by
  simp only [State.commandCard]; repeat' split
  all_goals simp
@[simp] theorem State.commandCard_levels (i : Station) (n : Nat) : (s.commandCard i n).levels = s.levels := by
  simp only [State.commandCard]; repeat' split
  all_goals simp
@[simp] theorem State.commandCard_lastGranted (i : Station) (n : Nat) : (s.commandCard i n).lastGranted = s.lastGranted := by
  simp only [State.commandCard]; repeat' split
  all_goals simp
@[simp] theorem State.commandCard_loans (i : Station) (n : Nat) : (s.commandCard i n).loans = s.loans := by
  simp only [State.commandCard]; repeat' split
  all_goals simp
@[simp] theorem State.commandCard_tables (i : Station) (n : Nat) : (s.commandCard i n).tables = s.tables := by
  simp only [State.commandCard]; repeat' split
  all_goals simp
@[simp] theorem State.commandCard_clock (i : Station) (n : Nat) : (s.commandCard i n).clock = s.clock := by
  simp only [State.commandCard]; repeat' split
  all_goals simp
@[simp] theorem State.commandCard_configStore (i : Station) (n : Nat) : (s.commandCard i n).configStore = s.configStore := by
  simp only [State.commandCard]; repeat' split
  all_goals simp

/-! ### A grant in IDLE (R30) -/

@[simp] theorem State.grantIdle_pending (i : Station) (x : ScanRecord) : (s.grantIdle i x).pending = s.pending := by
  simp only [State.grantIdle]; repeat' split
  all_goals simp
@[simp] theorem State.grantIdle_draws (i : Station) (x : ScanRecord) : (s.grantIdle i x).draws = s.draws := by
  simp only [State.grantIdle]; repeat' split
  all_goals simp
@[simp] theorem State.grantIdle_life (i : Station) (x : ScanRecord) : (s.grantIdle i x).life = s.life := by
  simp only [State.grantIdle]; repeat' split
  all_goals simp
@[simp] theorem State.grantIdle_phase (i : Station) (x : ScanRecord) : (s.grantIdle i x).phase = s.phase := by
  simp only [State.grantIdle]; repeat' split
  all_goals simp
@[simp] theorem State.grantIdle_startCause (i : Station) (x : ScanRecord) : (s.grantIdle i x).startCause = s.startCause := by
  simp only [State.grantIdle]; repeat' split
  all_goals simp
@[simp] theorem State.grantIdle_heldCause (i : Station) (x : ScanRecord) : (s.grantIdle i x).heldCause = s.heldCause := by
  simp only [State.grantIdle]; repeat' split
  all_goals simp
@[simp] theorem State.grantIdle_pins (i : Station) (x : ScanRecord) : (s.grantIdle i x).pins = s.pins := by
  simp only [State.grantIdle]; repeat' split
  all_goals simp
@[simp] theorem State.grantIdle_ready (i : Station) (x : ScanRecord) : (s.grantIdle i x).ready = s.ready := by
  simp only [State.grantIdle]; repeat' split
  all_goals simp
@[simp] theorem State.grantIdle_resetLine (i : Station) (x : ScanRecord) : (s.grantIdle i x).resetLine = s.resetLine := by
  simp only [State.grantIdle]; repeat' split
  all_goals simp
@[simp] theorem State.grantIdle_levels (i : Station) (x : ScanRecord) : (s.grantIdle i x).levels = s.levels := by
  simp only [State.grantIdle]; repeat' split
  all_goals simp
@[simp] theorem State.grantIdle_lastGranted (i : Station) (x : ScanRecord) : (s.grantIdle i x).lastGranted = s.lastGranted := by
  simp only [State.grantIdle]; repeat' split
  all_goals simp
@[simp] theorem State.grantIdle_loans (i : Station) (x : ScanRecord) : (s.grantIdle i x).loans = s.loans := by
  simp only [State.grantIdle]; repeat' split
  all_goals simp
@[simp] theorem State.grantIdle_tables (i : Station) (x : ScanRecord) : (s.grantIdle i x).tables = s.tables := by
  simp only [State.grantIdle]; repeat' split
  all_goals simp
@[simp] theorem State.grantIdle_clock (i : Station) (x : ScanRecord) : (s.grantIdle i x).clock = s.clock := by
  simp only [State.grantIdle]; repeat' split
  all_goals simp
@[simp] theorem State.grantIdle_configStore (i : Station) (x : ScanRecord) : (s.grantIdle i x).configStore = s.configStore := by
  simp only [State.grantIdle]; repeat' split
  all_goals simp

/-! ### A grant in OPEN (R33) -/

@[simp] theorem State.grantOpen_pending (i : Station) (x : ScanRecord) : (s.grantOpen i x).pending = s.pending := by
  simp only [State.grantOpen]; repeat' split
  all_goals simp
@[simp] theorem State.grantOpen_draws (i : Station) (x : ScanRecord) : (s.grantOpen i x).draws = s.draws := by
  simp only [State.grantOpen]; repeat' split
  all_goals simp
@[simp] theorem State.grantOpen_life (i : Station) (x : ScanRecord) : (s.grantOpen i x).life = s.life := by
  simp only [State.grantOpen]; repeat' split
  all_goals simp
@[simp] theorem State.grantOpen_phase (i : Station) (x : ScanRecord) : (s.grantOpen i x).phase = s.phase := by
  simp only [State.grantOpen]; repeat' split
  all_goals simp
@[simp] theorem State.grantOpen_startCause (i : Station) (x : ScanRecord) : (s.grantOpen i x).startCause = s.startCause := by
  simp only [State.grantOpen]; repeat' split
  all_goals simp
@[simp] theorem State.grantOpen_heldCause (i : Station) (x : ScanRecord) : (s.grantOpen i x).heldCause = s.heldCause := by
  simp only [State.grantOpen]; repeat' split
  all_goals simp
@[simp] theorem State.grantOpen_pins (i : Station) (x : ScanRecord) : (s.grantOpen i x).pins = s.pins := by
  simp only [State.grantOpen]; repeat' split
  all_goals simp
@[simp] theorem State.grantOpen_ready (i : Station) (x : ScanRecord) : (s.grantOpen i x).ready = s.ready := by
  simp only [State.grantOpen]; repeat' split
  all_goals simp
@[simp] theorem State.grantOpen_resetLine (i : Station) (x : ScanRecord) : (s.grantOpen i x).resetLine = s.resetLine := by
  simp only [State.grantOpen]; repeat' split
  all_goals simp
@[simp] theorem State.grantOpen_levels (i : Station) (x : ScanRecord) : (s.grantOpen i x).levels = s.levels := by
  simp only [State.grantOpen]; repeat' split
  all_goals simp
@[simp] theorem State.grantOpen_lastGranted (i : Station) (x : ScanRecord) : (s.grantOpen i x).lastGranted = s.lastGranted := by
  simp only [State.grantOpen]; repeat' split
  all_goals simp
@[simp] theorem State.grantOpen_loans (i : Station) (x : ScanRecord) : (s.grantOpen i x).loans = s.loans := by
  simp only [State.grantOpen]; repeat' split
  all_goals simp
@[simp] theorem State.grantOpen_tables (i : Station) (x : ScanRecord) : (s.grantOpen i x).tables = s.tables := by
  simp only [State.grantOpen]; repeat' split
  all_goals simp
@[simp] theorem State.grantOpen_clock (i : Station) (x : ScanRecord) : (s.grantOpen i x).clock = s.clock := by
  simp only [State.grantOpen]; repeat' split
  all_goals simp
@[simp] theorem State.grantOpen_configStore (i : Station) (x : ScanRecord) : (s.grantOpen i x).configStore = s.configStore := by
  simp only [State.grantOpen]; repeat' split
  all_goals simp

/-! ### A grant (R28) -/

@[simp] theorem State.grant_pending : (s.grant).pending = s.pending := by
  simp only [State.grant]; repeat' split
  all_goals simp
@[simp] theorem State.grant_draws : (s.grant).draws = s.draws := by
  simp only [State.grant]; repeat' split
  all_goals simp
@[simp] theorem State.grant_life : (s.grant).life = s.life := by
  simp only [State.grant]; repeat' split
  all_goals simp
@[simp] theorem State.grant_phase : (s.grant).phase = s.phase := by
  simp only [State.grant]; repeat' split
  all_goals simp
@[simp] theorem State.grant_startCause : (s.grant).startCause = s.startCause := by
  simp only [State.grant]; repeat' split
  all_goals simp
@[simp] theorem State.grant_heldCause : (s.grant).heldCause = s.heldCause := by
  simp only [State.grant]; repeat' split
  all_goals simp
@[simp] theorem State.grant_pins : (s.grant).pins = s.pins := by
  simp only [State.grant]; repeat' split
  all_goals simp
@[simp] theorem State.grant_ready : (s.grant).ready = s.ready := by
  simp only [State.grant]; repeat' split
  all_goals simp
@[simp] theorem State.grant_resetLine : (s.grant).resetLine = s.resetLine := by
  simp only [State.grant]; repeat' split
  all_goals simp
@[simp] theorem State.grant_levels : (s.grant).levels = s.levels := by
  simp only [State.grant]; repeat' split
  all_goals simp
@[simp] theorem State.grant_loans : (s.grant).loans = s.loans := by
  simp only [State.grant]; repeat' split
  all_goals simp
@[simp] theorem State.grant_tables : (s.grant).tables = s.tables := by
  simp only [State.grant]; repeat' split
  all_goals simp
@[simp] theorem State.grant_clock : (s.grant).clock = s.clock := by
  simp only [State.grant]; repeat' split
  all_goals simp
@[simp] theorem State.grant_configStore : (s.grant).configStore = s.configStore := by
  simp only [State.grant]; repeat' split
  all_goals simp

/-! ### A decision's latch (R74) -/

@[simp] theorem State.latchFor_pending (c : Option Condition) : (s.latchFor c).pending = s.pending := by
  simp only [State.latchFor]; repeat' split
  all_goals simp
@[simp] theorem State.latchFor_draws (c : Option Condition) : (s.latchFor c).draws = s.draws := by
  simp only [State.latchFor]; repeat' split
  all_goals simp
@[simp] theorem State.latchFor_life (c : Option Condition) : (s.latchFor c).life = s.life := by
  simp only [State.latchFor]; repeat' split
  all_goals simp
@[simp] theorem State.latchFor_phase (c : Option Condition) : (s.latchFor c).phase = s.phase := by
  simp only [State.latchFor]; repeat' split
  all_goals simp
@[simp] theorem State.latchFor_startCause (c : Option Condition) : (s.latchFor c).startCause = s.startCause := by
  simp only [State.latchFor]; repeat' split
  all_goals simp
@[simp] theorem State.latchFor_heldCause (c : Option Condition) : (s.latchFor c).heldCause = s.heldCause := by
  simp only [State.latchFor]; repeat' split
  all_goals simp
@[simp] theorem State.latchFor_pins (c : Option Condition) : (s.latchFor c).pins = s.pins := by
  simp only [State.latchFor]; repeat' split
  all_goals simp
@[simp] theorem State.latchFor_ready (c : Option Condition) : (s.latchFor c).ready = s.ready := by
  simp only [State.latchFor]; repeat' split
  all_goals simp
@[simp] theorem State.latchFor_resetLine (c : Option Condition) : (s.latchFor c).resetLine = s.resetLine := by
  simp only [State.latchFor]; repeat' split
  all_goals simp
@[simp] theorem State.latchFor_levels (c : Option Condition) : (s.latchFor c).levels = s.levels := by
  simp only [State.latchFor]; repeat' split
  all_goals simp
@[simp] theorem State.latchFor_channels (c : Option Condition) : (s.latchFor c).channels = s.channels := by
  simp only [State.latchFor]; repeat' split
  all_goals simp
@[simp] theorem State.latchFor_sessions (c : Option Condition) : (s.latchFor c).sessions = s.sessions := by
  simp only [State.latchFor]; repeat' split
  all_goals simp
@[simp] theorem State.latchFor_lastGranted (c : Option Condition) : (s.latchFor c).lastGranted = s.lastGranted := by
  simp only [State.latchFor]; repeat' split
  all_goals simp
@[simp] theorem State.latchFor_engine (c : Option Condition) : (s.latchFor c).engine = s.engine := by
  simp only [State.latchFor]; repeat' split
  all_goals simp
@[simp] theorem State.latchFor_loans (c : Option Condition) : (s.latchFor c).loans = s.loans := by
  simp only [State.latchFor]; repeat' split
  all_goals simp
@[simp] theorem State.latchFor_tables (c : Option Condition) : (s.latchFor c).tables = s.tables := by
  simp only [State.latchFor]; repeat' split
  all_goals simp
@[simp] theorem State.latchFor_journal (c : Option Condition) : (s.latchFor c).journal = s.journal := by
  simp only [State.latchFor]; repeat' split
  all_goals simp
@[simp] theorem State.latchFor_clock (c : Option Condition) : (s.latchFor c).clock = s.clock := by
  simp only [State.latchFor]; repeat' split
  all_goals simp
@[simp] theorem State.latchFor_slips (c : Option Condition) : (s.latchFor c).slips = s.slips := by
  simp only [State.latchFor]; repeat' split
  all_goals simp
@[simp] theorem State.latchFor_link (c : Option Condition) : (s.latchFor c).link = s.link := by
  simp only [State.latchFor]; repeat' split
  all_goals simp
@[simp] theorem State.latchFor_config (c : Option Condition) : (s.latchFor c).config = s.config := by
  simp only [State.latchFor]; repeat' split
  all_goals simp
@[simp] theorem State.latchFor_configStore (c : Option Condition) : (s.latchFor c).configStore = s.configStore := by
  simp only [State.latchFor]; repeat' split
  all_goals simp

/-! ### A decision's outcome (R50) -/

@[simp] theorem State.displayFor_pending (i : Station) (o : Option OutcomeKind) : (s.displayFor i o).pending = s.pending := by
  simp only [State.displayFor]; repeat' split
  all_goals simp
@[simp] theorem State.displayFor_draws (i : Station) (o : Option OutcomeKind) : (s.displayFor i o).draws = s.draws := by
  simp only [State.displayFor]; repeat' split
  all_goals simp
@[simp] theorem State.displayFor_life (i : Station) (o : Option OutcomeKind) : (s.displayFor i o).life = s.life := by
  simp only [State.displayFor]; repeat' split
  all_goals simp
@[simp] theorem State.displayFor_phase (i : Station) (o : Option OutcomeKind) : (s.displayFor i o).phase = s.phase := by
  simp only [State.displayFor]; repeat' split
  all_goals simp
@[simp] theorem State.displayFor_startCause (i : Station) (o : Option OutcomeKind) : (s.displayFor i o).startCause = s.startCause := by
  simp only [State.displayFor]; repeat' split
  all_goals simp
@[simp] theorem State.displayFor_heldCause (i : Station) (o : Option OutcomeKind) : (s.displayFor i o).heldCause = s.heldCause := by
  simp only [State.displayFor]; repeat' split
  all_goals simp
@[simp] theorem State.displayFor_pins (i : Station) (o : Option OutcomeKind) : (s.displayFor i o).pins = s.pins := by
  simp only [State.displayFor]; repeat' split
  all_goals simp
@[simp] theorem State.displayFor_ready (i : Station) (o : Option OutcomeKind) : (s.displayFor i o).ready = s.ready := by
  simp only [State.displayFor]; repeat' split
  all_goals simp
@[simp] theorem State.displayFor_resetLine (i : Station) (o : Option OutcomeKind) : (s.displayFor i o).resetLine = s.resetLine := by
  simp only [State.displayFor]; repeat' split
  all_goals simp
@[simp] theorem State.displayFor_levels (i : Station) (o : Option OutcomeKind) : (s.displayFor i o).levels = s.levels := by
  simp only [State.displayFor]; repeat' split
  all_goals simp
@[simp] theorem State.displayFor_sessions (i : Station) (o : Option OutcomeKind) : (s.displayFor i o).sessions = s.sessions := by
  simp only [State.displayFor]; repeat' split
  all_goals simp
@[simp] theorem State.displayFor_lastGranted (i : Station) (o : Option OutcomeKind) : (s.displayFor i o).lastGranted = s.lastGranted := by
  simp only [State.displayFor]; repeat' split
  all_goals simp
@[simp] theorem State.displayFor_engine (i : Station) (o : Option OutcomeKind) : (s.displayFor i o).engine = s.engine := by
  simp only [State.displayFor]; repeat' split
  all_goals simp
@[simp] theorem State.displayFor_loans (i : Station) (o : Option OutcomeKind) : (s.displayFor i o).loans = s.loans := by
  simp only [State.displayFor]; repeat' split
  all_goals simp
@[simp] theorem State.displayFor_tables (i : Station) (o : Option OutcomeKind) : (s.displayFor i o).tables = s.tables := by
  simp only [State.displayFor]; repeat' split
  all_goals simp
@[simp] theorem State.displayFor_journal (i : Station) (o : Option OutcomeKind) : (s.displayFor i o).journal = s.journal := by
  simp only [State.displayFor]; repeat' split
  all_goals simp
@[simp] theorem State.displayFor_clock (i : Station) (o : Option OutcomeKind) : (s.displayFor i o).clock = s.clock := by
  simp only [State.displayFor]; repeat' split
  all_goals simp
@[simp] theorem State.displayFor_slips (i : Station) (o : Option OutcomeKind) : (s.displayFor i o).slips = s.slips := by
  simp only [State.displayFor]; repeat' split
  all_goals simp
@[simp] theorem State.displayFor_link (i : Station) (o : Option OutcomeKind) : (s.displayFor i o).link = s.link := by
  simp only [State.displayFor]; repeat' split
  all_goals simp
@[simp] theorem State.displayFor_config (i : Station) (o : Option OutcomeKind) : (s.displayFor i o).config = s.config := by
  simp only [State.displayFor]; repeat' split
  all_goals simp
@[simp] theorem State.displayFor_configStore (i : Station) (o : Option OutcomeKind) : (s.displayFor i o).configStore = s.configStore := by
  simp only [State.displayFor]; repeat' split
  all_goals simp
@[simp] theorem State.displayFor_latched (i : Station) (o : Option OutcomeKind) : (s.displayFor i o).latched = s.latched := by
  simp only [State.displayFor]; repeat' split
  all_goals simp

/-! ### A hold slip offered (R46) -/

@[simp] theorem State.offerHold_pending (i : Station) (x : Option Slip) : (s.offerHold i x).pending = s.pending := by
  simp only [State.offerHold]; repeat' split
  all_goals simp
@[simp] theorem State.offerHold_draws (i : Station) (x : Option Slip) : (s.offerHold i x).draws = s.draws := by
  simp only [State.offerHold]; repeat' split
  all_goals simp
@[simp] theorem State.offerHold_life (i : Station) (x : Option Slip) : (s.offerHold i x).life = s.life := by
  simp only [State.offerHold]; repeat' split
  all_goals simp
@[simp] theorem State.offerHold_phase (i : Station) (x : Option Slip) : (s.offerHold i x).phase = s.phase := by
  simp only [State.offerHold]; repeat' split
  all_goals simp
@[simp] theorem State.offerHold_startCause (i : Station) (x : Option Slip) : (s.offerHold i x).startCause = s.startCause := by
  simp only [State.offerHold]; repeat' split
  all_goals simp
@[simp] theorem State.offerHold_heldCause (i : Station) (x : Option Slip) : (s.offerHold i x).heldCause = s.heldCause := by
  simp only [State.offerHold]; repeat' split
  all_goals simp
@[simp] theorem State.offerHold_pins (i : Station) (x : Option Slip) : (s.offerHold i x).pins = s.pins := by
  simp only [State.offerHold]; repeat' split
  all_goals simp
@[simp] theorem State.offerHold_ready (i : Station) (x : Option Slip) : (s.offerHold i x).ready = s.ready := by
  simp only [State.offerHold]; repeat' split
  all_goals simp
@[simp] theorem State.offerHold_resetLine (i : Station) (x : Option Slip) : (s.offerHold i x).resetLine = s.resetLine := by
  simp only [State.offerHold]; repeat' split
  all_goals simp
@[simp] theorem State.offerHold_levels (i : Station) (x : Option Slip) : (s.offerHold i x).levels = s.levels := by
  simp only [State.offerHold]; repeat' split
  all_goals simp
@[simp] theorem State.offerHold_channels (i : Station) (x : Option Slip) : (s.offerHold i x).channels = s.channels := by
  simp only [State.offerHold]; repeat' split
  all_goals simp
@[simp] theorem State.offerHold_lastGranted (i : Station) (x : Option Slip) : (s.offerHold i x).lastGranted = s.lastGranted := by
  simp only [State.offerHold]; repeat' split
  all_goals simp
@[simp] theorem State.offerHold_engine (i : Station) (x : Option Slip) : (s.offerHold i x).engine = s.engine := by
  simp only [State.offerHold]; repeat' split
  all_goals simp
@[simp] theorem State.offerHold_loans (i : Station) (x : Option Slip) : (s.offerHold i x).loans = s.loans := by
  simp only [State.offerHold]; repeat' split
  all_goals simp
@[simp] theorem State.offerHold_tables (i : Station) (x : Option Slip) : (s.offerHold i x).tables = s.tables := by
  simp only [State.offerHold]; repeat' split
  all_goals simp
@[simp] theorem State.offerHold_clock (i : Station) (x : Option Slip) : (s.offerHold i x).clock = s.clock := by
  simp only [State.offerHold]; repeat' split
  all_goals simp
@[simp] theorem State.offerHold_link (i : Station) (x : Option Slip) : (s.offerHold i x).link = s.link := by
  simp only [State.offerHold]; repeat' split
  all_goals simp
@[simp] theorem State.offerHold_config (i : Station) (x : Option Slip) : (s.offerHold i x).config = s.config := by
  simp only [State.offerHold]; repeat' split
  all_goals simp
@[simp] theorem State.offerHold_configStore (i : Station) (x : Option Slip) : (s.offerHold i x).configStore = s.configStore := by
  simp only [State.offerHold]; repeat' split
  all_goals simp

/-! ### A close after a decision (R25, R29) -/

@[simp] theorem State.closeAfter_pending (i : Station) (o : Bool) : (s.closeAfter i o).pending = s.pending := by
  simp only [State.closeAfter]; repeat' split
  all_goals simp
@[simp] theorem State.closeAfter_draws (i : Station) (o : Bool) : (s.closeAfter i o).draws = s.draws := by
  simp only [State.closeAfter]; repeat' split
  all_goals simp
@[simp] theorem State.closeAfter_life (i : Station) (o : Bool) : (s.closeAfter i o).life = s.life := by
  simp only [State.closeAfter]; repeat' split
  all_goals simp
@[simp] theorem State.closeAfter_phase (i : Station) (o : Bool) : (s.closeAfter i o).phase = s.phase := by
  simp only [State.closeAfter]; repeat' split
  all_goals simp
@[simp] theorem State.closeAfter_startCause (i : Station) (o : Bool) : (s.closeAfter i o).startCause = s.startCause := by
  simp only [State.closeAfter]; repeat' split
  all_goals simp
@[simp] theorem State.closeAfter_heldCause (i : Station) (o : Bool) : (s.closeAfter i o).heldCause = s.heldCause := by
  simp only [State.closeAfter]; repeat' split
  all_goals simp
@[simp] theorem State.closeAfter_pins (i : Station) (o : Bool) : (s.closeAfter i o).pins = s.pins := by
  simp only [State.closeAfter]; repeat' split
  all_goals simp
@[simp] theorem State.closeAfter_ready (i : Station) (o : Bool) : (s.closeAfter i o).ready = s.ready := by
  simp only [State.closeAfter]; repeat' split
  all_goals simp
@[simp] theorem State.closeAfter_resetLine (i : Station) (o : Bool) : (s.closeAfter i o).resetLine = s.resetLine := by
  simp only [State.closeAfter]; repeat' split
  all_goals simp
@[simp] theorem State.closeAfter_levels (i : Station) (o : Bool) : (s.closeAfter i o).levels = s.levels := by
  simp only [State.closeAfter]; repeat' split
  all_goals simp
@[simp] theorem State.closeAfter_lastGranted (i : Station) (o : Bool) : (s.closeAfter i o).lastGranted = s.lastGranted := by
  simp only [State.closeAfter]; repeat' split
  all_goals simp
@[simp] theorem State.closeAfter_engine (i : Station) (o : Bool) : (s.closeAfter i o).engine = s.engine := by
  simp only [State.closeAfter]; repeat' split
  all_goals simp
@[simp] theorem State.closeAfter_loans (i : Station) (o : Bool) : (s.closeAfter i o).loans = s.loans := by
  simp only [State.closeAfter]; repeat' split
  all_goals simp
@[simp] theorem State.closeAfter_tables (i : Station) (o : Bool) : (s.closeAfter i o).tables = s.tables := by
  simp only [State.closeAfter]; repeat' split
  all_goals simp
@[simp] theorem State.closeAfter_clock (i : Station) (o : Bool) : (s.closeAfter i o).clock = s.clock := by
  simp only [State.closeAfter]; repeat' split
  all_goals simp
@[simp] theorem State.closeAfter_link (i : Station) (o : Bool) : (s.closeAfter i o).link = s.link := by
  simp only [State.closeAfter]; repeat' split
  all_goals simp
@[simp] theorem State.closeAfter_config (i : Station) (o : Bool) : (s.closeAfter i o).config = s.config := by
  simp only [State.closeAfter]; repeat' split
  all_goals simp
@[simp] theorem State.closeAfter_configStore (i : Station) (o : Bool) : (s.closeAfter i o).configStore = s.configStore := by
  simp only [State.closeAfter]; repeat' split
  all_goals simp

/-! ### A decision's effects (R50) -/

@[simp] theorem State.applyVerdict_pending (d : Decision) (v : Verdict) (n : Nat) : (s.applyVerdict d v n).pending = s.pending := by simp [State.applyVerdict]
@[simp] theorem State.applyVerdict_draws (d : Decision) (v : Verdict) (n : Nat) : (s.applyVerdict d v n).draws = s.draws := by simp [State.applyVerdict]
@[simp] theorem State.applyVerdict_life (d : Decision) (v : Verdict) (n : Nat) : (s.applyVerdict d v n).life = s.life := by simp [State.applyVerdict]
@[simp] theorem State.applyVerdict_phase (d : Decision) (v : Verdict) (n : Nat) : (s.applyVerdict d v n).phase = s.phase := by simp [State.applyVerdict]
@[simp] theorem State.applyVerdict_startCause (d : Decision) (v : Verdict) (n : Nat) : (s.applyVerdict d v n).startCause = s.startCause := by simp [State.applyVerdict]
@[simp] theorem State.applyVerdict_heldCause (d : Decision) (v : Verdict) (n : Nat) : (s.applyVerdict d v n).heldCause = s.heldCause := by simp [State.applyVerdict]
@[simp] theorem State.applyVerdict_pins (d : Decision) (v : Verdict) (n : Nat) : (s.applyVerdict d v n).pins = s.pins := by simp [State.applyVerdict]
@[simp] theorem State.applyVerdict_ready (d : Decision) (v : Verdict) (n : Nat) : (s.applyVerdict d v n).ready = s.ready := by simp [State.applyVerdict]
@[simp] theorem State.applyVerdict_resetLine (d : Decision) (v : Verdict) (n : Nat) : (s.applyVerdict d v n).resetLine = s.resetLine := by simp [State.applyVerdict]
@[simp] theorem State.applyVerdict_levels (d : Decision) (v : Verdict) (n : Nat) : (s.applyVerdict d v n).levels = s.levels := by simp [State.applyVerdict]
@[simp] theorem State.applyVerdict_lastGranted (d : Decision) (v : Verdict) (n : Nat) : (s.applyVerdict d v n).lastGranted = s.lastGranted := by simp [State.applyVerdict]
@[simp] theorem State.applyVerdict_loans (d : Decision) (v : Verdict) (n : Nat) : (s.applyVerdict d v n).loans = s.loans := by simp [State.applyVerdict]
@[simp] theorem State.applyVerdict_tables (d : Decision) (v : Verdict) (n : Nat) : (s.applyVerdict d v n).tables = s.tables := by simp [State.applyVerdict]
@[simp] theorem State.applyVerdict_clock (d : Decision) (v : Verdict) (n : Nat) : (s.applyVerdict d v n).clock = s.clock := by simp [State.applyVerdict]
@[simp] theorem State.applyVerdict_link (d : Decision) (v : Verdict) (n : Nat) : (s.applyVerdict d v n).link = s.link := by simp [State.applyVerdict]
@[simp] theorem State.applyVerdict_config (d : Decision) (v : Verdict) (n : Nat) : (s.applyVerdict d v n).config = s.config := by simp [State.applyVerdict]
@[simp] theorem State.applyVerdict_configStore (d : Decision) (v : Verdict) (n : Nat) : (s.applyVerdict d v n).configStore = s.configStore := by simp [State.applyVerdict]

/-! ### The engine's turn (R48) -/

@[simp] theorem State.serveEngine_pending (r : Bool) : (s.serveEngine r).pending = s.pending := by
  simp only [State.serveEngine]; repeat' split
  all_goals simp
@[simp] theorem State.serveEngine_draws (r : Bool) : (s.serveEngine r).draws = s.draws := by
  simp only [State.serveEngine]; repeat' split
  all_goals simp
@[simp] theorem State.serveEngine_life (r : Bool) : (s.serveEngine r).life = s.life := by
  simp only [State.serveEngine]; repeat' split
  all_goals simp
@[simp] theorem State.serveEngine_phase (r : Bool) : (s.serveEngine r).phase = s.phase := by
  simp only [State.serveEngine]; repeat' split
  all_goals simp
@[simp] theorem State.serveEngine_startCause (r : Bool) : (s.serveEngine r).startCause = s.startCause := by
  simp only [State.serveEngine]; repeat' split
  all_goals simp
@[simp] theorem State.serveEngine_heldCause (r : Bool) : (s.serveEngine r).heldCause = s.heldCause := by
  simp only [State.serveEngine]; repeat' split
  all_goals simp
@[simp] theorem State.serveEngine_pins (r : Bool) : (s.serveEngine r).pins = s.pins := by
  simp only [State.serveEngine]; repeat' split
  all_goals simp
@[simp] theorem State.serveEngine_ready (r : Bool) : (s.serveEngine r).ready = s.ready := by
  simp only [State.serveEngine]; repeat' split
  all_goals simp
@[simp] theorem State.serveEngine_resetLine (r : Bool) : (s.serveEngine r).resetLine = s.resetLine := by
  simp only [State.serveEngine]; repeat' split
  all_goals simp
@[simp] theorem State.serveEngine_levels (r : Bool) : (s.serveEngine r).levels = s.levels := by
  simp only [State.serveEngine]; repeat' split
  all_goals simp
@[simp] theorem State.serveEngine_lastGranted (r : Bool) : (s.serveEngine r).lastGranted = s.lastGranted := by
  simp only [State.serveEngine]; repeat' split
  all_goals simp
@[simp] theorem State.serveEngine_loans (r : Bool) : (s.serveEngine r).loans = s.loans := by
  simp only [State.serveEngine]; repeat' split
  all_goals simp
@[simp] theorem State.serveEngine_tables (r : Bool) : (s.serveEngine r).tables = s.tables := by
  simp only [State.serveEngine]; repeat' split
  all_goals simp
@[simp] theorem State.serveEngine_clock (r : Bool) : (s.serveEngine r).clock = s.clock := by
  simp only [State.serveEngine]; repeat' split
  all_goals simp
@[simp] theorem State.serveEngine_link (r : Bool) : (s.serveEngine r).link = s.link := by
  simp only [State.serveEngine]; repeat' split
  all_goals simp
@[simp] theorem State.serveEngine_config (r : Bool) : (s.serveEngine r).config = s.config := by
  simp only [State.serveEngine]; repeat' split
  all_goals simp
@[simp] theorem State.serveEngine_configStore (r : Bool) : (s.serveEngine r).configStore = s.configStore := by
  simp only [State.serveEngine]; repeat' split
  all_goals simp

/-! ### The clock's turn (R80) -/

@[simp] theorem State.serveClock_pending : (s.serveClock).pending = s.pending := by
  simp only [State.serveClock]; repeat' split
  all_goals simp
@[simp] theorem State.serveClock_draws : (s.serveClock).draws = s.draws := by
  simp only [State.serveClock]; repeat' split
  all_goals simp
@[simp] theorem State.serveClock_life : (s.serveClock).life = s.life := by
  simp only [State.serveClock]; repeat' split
  all_goals simp
@[simp] theorem State.serveClock_phase : (s.serveClock).phase = s.phase := by
  simp only [State.serveClock]; repeat' split
  all_goals simp
@[simp] theorem State.serveClock_startCause : (s.serveClock).startCause = s.startCause := by
  simp only [State.serveClock]; repeat' split
  all_goals simp
@[simp] theorem State.serveClock_heldCause : (s.serveClock).heldCause = s.heldCause := by
  simp only [State.serveClock]; repeat' split
  all_goals simp
@[simp] theorem State.serveClock_pins : (s.serveClock).pins = s.pins := by
  simp only [State.serveClock]; repeat' split
  all_goals simp
@[simp] theorem State.serveClock_ready : (s.serveClock).ready = s.ready := by
  simp only [State.serveClock]; repeat' split
  all_goals simp
@[simp] theorem State.serveClock_resetLine : (s.serveClock).resetLine = s.resetLine := by
  simp only [State.serveClock]; repeat' split
  all_goals simp
@[simp] theorem State.serveClock_levels : (s.serveClock).levels = s.levels := by
  simp only [State.serveClock]; repeat' split
  all_goals simp
@[simp] theorem State.serveClock_channels : (s.serveClock).channels = s.channels := by
  simp only [State.serveClock]; repeat' split
  all_goals simp
@[simp] theorem State.serveClock_sessions : (s.serveClock).sessions = s.sessions := by
  simp only [State.serveClock]; repeat' split
  all_goals simp
@[simp] theorem State.serveClock_lastGranted : (s.serveClock).lastGranted = s.lastGranted := by
  simp only [State.serveClock]; repeat' split
  all_goals simp
@[simp] theorem State.serveClock_engine : (s.serveClock).engine = s.engine := by
  simp only [State.serveClock]; repeat' split
  all_goals simp
@[simp] theorem State.serveClock_loans : (s.serveClock).loans = s.loans := by
  simp only [State.serveClock]; repeat' split
  all_goals simp
@[simp] theorem State.serveClock_tables : (s.serveClock).tables = s.tables := by
  simp only [State.serveClock]; repeat' split
  all_goals simp
@[simp] theorem State.serveClock_slips : (s.serveClock).slips = s.slips := by
  simp only [State.serveClock]; repeat' split
  all_goals simp
@[simp] theorem State.serveClock_link : (s.serveClock).link = s.link := by
  simp only [State.serveClock]; repeat' split
  all_goals simp
@[simp] theorem State.serveClock_config : (s.serveClock).config = s.config := by
  simp only [State.serveClock]; repeat' split
  all_goals simp
@[simp] theorem State.serveClock_configStore : (s.serveClock).configStore = s.configStore := by
  simp only [State.serveClock]; repeat' split
  all_goals simp
@[simp] theorem State.serveClock_latched : (s.serveClock).latched = s.latched := by
  simp only [State.serveClock]; repeat' split
  all_goals simp

/-! ### A recorded turn (R136) -/

@[simp] theorem State.serveRecorded_pending (r : Requester) : (s.serveRecorded r).pending = s.pending := by
  simp only [State.serveRecorded]; repeat' split
  all_goals simp
@[simp] theorem State.serveRecorded_draws (r : Requester) : (s.serveRecorded r).draws = s.draws := by
  simp only [State.serveRecorded]; repeat' split
  all_goals simp
@[simp] theorem State.serveRecorded_life (r : Requester) : (s.serveRecorded r).life = s.life := by
  simp only [State.serveRecorded]; repeat' split
  all_goals simp
@[simp] theorem State.serveRecorded_phase (r : Requester) : (s.serveRecorded r).phase = s.phase := by
  simp only [State.serveRecorded]; repeat' split
  all_goals simp
@[simp] theorem State.serveRecorded_startCause (r : Requester) : (s.serveRecorded r).startCause = s.startCause := by
  simp only [State.serveRecorded]; repeat' split
  all_goals simp
@[simp] theorem State.serveRecorded_heldCause (r : Requester) : (s.serveRecorded r).heldCause = s.heldCause := by
  simp only [State.serveRecorded]; repeat' split
  all_goals simp
@[simp] theorem State.serveRecorded_pins (r : Requester) : (s.serveRecorded r).pins = s.pins := by
  simp only [State.serveRecorded]; repeat' split
  all_goals simp
@[simp] theorem State.serveRecorded_ready (r : Requester) : (s.serveRecorded r).ready = s.ready := by
  simp only [State.serveRecorded]; repeat' split
  all_goals simp
@[simp] theorem State.serveRecorded_resetLine (r : Requester) : (s.serveRecorded r).resetLine = s.resetLine := by
  simp only [State.serveRecorded]; repeat' split
  all_goals simp
@[simp] theorem State.serveRecorded_levels (r : Requester) : (s.serveRecorded r).levels = s.levels := by
  simp only [State.serveRecorded]; repeat' split
  all_goals simp
@[simp] theorem State.serveRecorded_lastGranted (r : Requester) : (s.serveRecorded r).lastGranted = s.lastGranted := by
  simp only [State.serveRecorded]; repeat' split
  all_goals simp
@[simp] theorem State.serveRecorded_loans (r : Requester) : (s.serveRecorded r).loans = s.loans := by
  simp only [State.serveRecorded]; repeat' split
  all_goals simp
@[simp] theorem State.serveRecorded_tables (r : Requester) : (s.serveRecorded r).tables = s.tables := by
  simp only [State.serveRecorded]; repeat' split
  all_goals simp
@[simp] theorem State.serveRecorded_link (r : Requester) : (s.serveRecorded r).link = s.link := by
  simp only [State.serveRecorded]; repeat' split
  all_goals simp
@[simp] theorem State.serveRecorded_config (r : Requester) : (s.serveRecorded r).config = s.config := by
  simp only [State.serveRecorded]; repeat' split
  all_goals simp
@[simp] theorem State.serveRecorded_configStore (r : Requester) : (s.serveRecorded r).configStore = s.configStore := by
  simp only [State.serveRecorded]; repeat' split
  all_goals simp

/-! ### A turn (R133 to R135) -/

@[simp] theorem State.turn_pending : (s.turn).pending = s.pending := by
  simp only [State.turn]; repeat' split
  all_goals simp
@[simp] theorem State.turn_draws : (s.turn).draws = s.draws := by
  simp only [State.turn]; repeat' split
  all_goals simp
@[simp] theorem State.turn_life : (s.turn).life = s.life := by
  simp only [State.turn]; repeat' split
  all_goals simp
@[simp] theorem State.turn_phase : (s.turn).phase = s.phase := by
  simp only [State.turn]; repeat' split
  all_goals simp
@[simp] theorem State.turn_startCause : (s.turn).startCause = s.startCause := by
  simp only [State.turn]; repeat' split
  all_goals simp
@[simp] theorem State.turn_heldCause : (s.turn).heldCause = s.heldCause := by
  simp only [State.turn]; repeat' split
  all_goals simp
@[simp] theorem State.turn_pins : (s.turn).pins = s.pins := by
  simp only [State.turn]; repeat' split
  all_goals simp
@[simp] theorem State.turn_ready : (s.turn).ready = s.ready := by
  simp only [State.turn]; repeat' split
  all_goals simp
@[simp] theorem State.turn_resetLine : (s.turn).resetLine = s.resetLine := by
  simp only [State.turn]; repeat' split
  all_goals simp
@[simp] theorem State.turn_levels : (s.turn).levels = s.levels := by
  simp only [State.turn]; repeat' split
  all_goals simp
@[simp] theorem State.turn_lastGranted : (s.turn).lastGranted = s.lastGranted := by
  simp only [State.turn]; repeat' split
  all_goals simp
@[simp] theorem State.turn_loans : (s.turn).loans = s.loans := by
  simp only [State.turn]; repeat' split
  all_goals simp
@[simp] theorem State.turn_tables : (s.turn).tables = s.tables := by
  simp only [State.turn]; repeat' split
  all_goals simp
@[simp] theorem State.turn_link : (s.turn).link = s.link := by
  simp only [State.turn]; repeat' split
  all_goals simp
@[simp] theorem State.turn_config : (s.turn).config = s.config := by
  simp only [State.turn]; repeat' split
  all_goals simp
@[simp] theorem State.turn_configStore : (s.turn).configStore = s.configStore := by
  simp only [State.turn]; repeat' split
  all_goals simp

/-! ### The flip (R114) -/

@[simp] theorem State.flip_pending (r : JournalRecord) : (s.flip r).pending = s.pending := rfl
@[simp] theorem State.flip_draws (r : JournalRecord) : (s.flip r).draws = s.draws := rfl
@[simp] theorem State.flip_life (r : JournalRecord) : (s.flip r).life = s.life := rfl
@[simp] theorem State.flip_phase (r : JournalRecord) : (s.flip r).phase = s.phase := rfl
@[simp] theorem State.flip_startCause (r : JournalRecord) : (s.flip r).startCause = s.startCause := rfl
@[simp] theorem State.flip_heldCause (r : JournalRecord) : (s.flip r).heldCause = s.heldCause := rfl
@[simp] theorem State.flip_pins (r : JournalRecord) : (s.flip r).pins = s.pins := rfl
@[simp] theorem State.flip_ready (r : JournalRecord) : (s.flip r).ready = s.ready := rfl
@[simp] theorem State.flip_resetLine (r : JournalRecord) : (s.flip r).resetLine = s.resetLine := rfl
@[simp] theorem State.flip_levels (r : JournalRecord) : (s.flip r).levels = s.levels := rfl
@[simp] theorem State.flip_channels (r : JournalRecord) : (s.flip r).channels = s.channels := rfl
@[simp] theorem State.flip_sessions (r : JournalRecord) : (s.flip r).sessions = s.sessions := rfl
@[simp] theorem State.flip_lastGranted (r : JournalRecord) : (s.flip r).lastGranted = s.lastGranted := rfl
@[simp] theorem State.flip_engine (r : JournalRecord) : (s.flip r).engine = s.engine := rfl
@[simp] theorem State.flip_clock (r : JournalRecord) : (s.flip r).clock = s.clock := rfl
@[simp] theorem State.flip_slips (r : JournalRecord) : (s.flip r).slips = s.slips := rfl
@[simp] theorem State.flip_link (r : JournalRecord) : (s.flip r).link = s.link := rfl
@[simp] theorem State.flip_config (r : JournalRecord) : (s.flip r).config = s.config := rfl
@[simp] theorem State.flip_configStore (r : JournalRecord) : (s.flip r).configStore = s.configStore := rfl
@[simp] theorem State.flip_latched (r : JournalRecord) : (s.flip r).latched = s.latched := rfl

/-! ### The clock set (R80) -/

@[simp] theorem State.setClock_pending : (s.setClock).pending = s.pending := by
  simp only [State.setClock]; repeat' split
  all_goals simp
@[simp] theorem State.setClock_draws : (s.setClock).draws = s.draws := by
  simp only [State.setClock]; repeat' split
  all_goals simp
@[simp] theorem State.setClock_life : (s.setClock).life = s.life := by
  simp only [State.setClock]; repeat' split
  all_goals simp
@[simp] theorem State.setClock_phase : (s.setClock).phase = s.phase := by
  simp only [State.setClock]; repeat' split
  all_goals simp
@[simp] theorem State.setClock_startCause : (s.setClock).startCause = s.startCause := by
  simp only [State.setClock]; repeat' split
  all_goals simp
@[simp] theorem State.setClock_heldCause : (s.setClock).heldCause = s.heldCause := by
  simp only [State.setClock]; repeat' split
  all_goals simp
@[simp] theorem State.setClock_pins : (s.setClock).pins = s.pins := by
  simp only [State.setClock]; repeat' split
  all_goals simp
@[simp] theorem State.setClock_ready : (s.setClock).ready = s.ready := by
  simp only [State.setClock]; repeat' split
  all_goals simp
@[simp] theorem State.setClock_resetLine : (s.setClock).resetLine = s.resetLine := by
  simp only [State.setClock]; repeat' split
  all_goals simp
@[simp] theorem State.setClock_levels : (s.setClock).levels = s.levels := by
  simp only [State.setClock]; repeat' split
  all_goals simp
@[simp] theorem State.setClock_channels : (s.setClock).channels = s.channels := by
  simp only [State.setClock]; repeat' split
  all_goals simp
@[simp] theorem State.setClock_sessions : (s.setClock).sessions = s.sessions := by
  simp only [State.setClock]; repeat' split
  all_goals simp
@[simp] theorem State.setClock_lastGranted : (s.setClock).lastGranted = s.lastGranted := by
  simp only [State.setClock]; repeat' split
  all_goals simp
@[simp] theorem State.setClock_engine : (s.setClock).engine = s.engine := by
  simp only [State.setClock]; repeat' split
  all_goals simp
@[simp] theorem State.setClock_loans : (s.setClock).loans = s.loans := by
  simp only [State.setClock]; repeat' split
  all_goals simp
@[simp] theorem State.setClock_tables : (s.setClock).tables = s.tables := by
  simp only [State.setClock]; repeat' split
  all_goals simp
@[simp] theorem State.setClock_journal : (s.setClock).journal = s.journal := by
  simp only [State.setClock]; repeat' split
  all_goals simp
@[simp] theorem State.setClock_slips : (s.setClock).slips = s.slips := by
  simp only [State.setClock]; repeat' split
  all_goals simp
@[simp] theorem State.setClock_link : (s.setClock).link = s.link := by
  simp only [State.setClock]; repeat' split
  all_goals simp
@[simp] theorem State.setClock_config : (s.setClock).config = s.config := by
  simp only [State.setClock]; repeat' split
  all_goals simp
@[simp] theorem State.setClock_configStore : (s.setClock).configStore = s.configStore := by
  simp only [State.setClock]; repeat' split
  all_goals simp
@[simp] theorem State.setClock_latched : (s.setClock).latched = s.latched := by
  simp only [State.setClock]; repeat' split
  all_goals simp

/-! ### A requester's effects (R136) -/

@[simp] theorem State.ownerEffects_pending (r : JournalRecord) (o : Requester) : (s.ownerEffects r o).pending = s.pending := by
  simp only [State.ownerEffects]; repeat' split
  all_goals simp
@[simp] theorem State.ownerEffects_draws (r : JournalRecord) (o : Requester) : (s.ownerEffects r o).draws = s.draws := by
  simp only [State.ownerEffects]; repeat' split
  all_goals simp
@[simp] theorem State.ownerEffects_life (r : JournalRecord) (o : Requester) : (s.ownerEffects r o).life = s.life := by
  simp only [State.ownerEffects]; repeat' split
  all_goals simp
@[simp] theorem State.ownerEffects_phase (r : JournalRecord) (o : Requester) : (s.ownerEffects r o).phase = s.phase := by
  simp only [State.ownerEffects]; repeat' split
  all_goals simp
@[simp] theorem State.ownerEffects_startCause (r : JournalRecord) (o : Requester) : (s.ownerEffects r o).startCause = s.startCause := by
  simp only [State.ownerEffects]; repeat' split
  all_goals simp
@[simp] theorem State.ownerEffects_heldCause (r : JournalRecord) (o : Requester) : (s.ownerEffects r o).heldCause = s.heldCause := by
  simp only [State.ownerEffects]; repeat' split
  all_goals simp
@[simp] theorem State.ownerEffects_pins (r : JournalRecord) (o : Requester) : (s.ownerEffects r o).pins = s.pins := by
  simp only [State.ownerEffects]; repeat' split
  all_goals simp
@[simp] theorem State.ownerEffects_ready (r : JournalRecord) (o : Requester) : (s.ownerEffects r o).ready = s.ready := by
  simp only [State.ownerEffects]; repeat' split
  all_goals simp
@[simp] theorem State.ownerEffects_resetLine (r : JournalRecord) (o : Requester) : (s.ownerEffects r o).resetLine = s.resetLine := by
  simp only [State.ownerEffects]; repeat' split
  all_goals simp
@[simp] theorem State.ownerEffects_levels (r : JournalRecord) (o : Requester) : (s.ownerEffects r o).levels = s.levels := by
  simp only [State.ownerEffects]; repeat' split
  all_goals simp
@[simp] theorem State.ownerEffects_lastGranted (r : JournalRecord) (o : Requester) : (s.ownerEffects r o).lastGranted = s.lastGranted := by
  simp only [State.ownerEffects]; repeat' split
  all_goals simp
@[simp] theorem State.ownerEffects_link (r : JournalRecord) (o : Requester) : (s.ownerEffects r o).link = s.link := by
  simp only [State.ownerEffects]; repeat' split
  all_goals simp
@[simp] theorem State.ownerEffects_config (r : JournalRecord) (o : Requester) : (s.ownerEffects r o).config = s.config := by
  simp only [State.ownerEffects]; repeat' split
  all_goals simp
@[simp] theorem State.ownerEffects_configStore (r : JournalRecord) (o : Requester) : (s.ownerEffects r o).configStore = s.configStore := by
  simp only [State.ownerEffects]; repeat' split
  all_goals simp

/-! ### A wand character (R2 to R5) -/

@[simp] theorem State.wandComplete_pending (i : Station) (c : WandChar) : (s.wandComplete i c).pending = s.pending := by
  simp only [State.wandComplete]; repeat' split
  all_goals simp
@[simp] theorem State.wandComplete_draws (i : Station) (c : WandChar) : (s.wandComplete i c).draws = s.draws := by
  simp only [State.wandComplete]; repeat' split
  all_goals simp
@[simp] theorem State.wandComplete_life (i : Station) (c : WandChar) : (s.wandComplete i c).life = s.life := by
  simp only [State.wandComplete]; repeat' split
  all_goals simp
@[simp] theorem State.wandComplete_phase (i : Station) (c : WandChar) : (s.wandComplete i c).phase = s.phase := by
  simp only [State.wandComplete]; repeat' split
  all_goals simp
@[simp] theorem State.wandComplete_startCause (i : Station) (c : WandChar) : (s.wandComplete i c).startCause = s.startCause := by
  simp only [State.wandComplete]; repeat' split
  all_goals simp
@[simp] theorem State.wandComplete_heldCause (i : Station) (c : WandChar) : (s.wandComplete i c).heldCause = s.heldCause := by
  simp only [State.wandComplete]; repeat' split
  all_goals simp
@[simp] theorem State.wandComplete_pins (i : Station) (c : WandChar) : (s.wandComplete i c).pins = s.pins := by
  simp only [State.wandComplete]; repeat' split
  all_goals simp
@[simp] theorem State.wandComplete_ready (i : Station) (c : WandChar) : (s.wandComplete i c).ready = s.ready := by
  simp only [State.wandComplete]; repeat' split
  all_goals simp
@[simp] theorem State.wandComplete_resetLine (i : Station) (c : WandChar) : (s.wandComplete i c).resetLine = s.resetLine := by
  simp only [State.wandComplete]; repeat' split
  all_goals simp
@[simp] theorem State.wandComplete_levels (i : Station) (c : WandChar) : (s.wandComplete i c).levels = s.levels := by
  simp only [State.wandComplete]; repeat' split
  all_goals simp
@[simp] theorem State.wandComplete_sessions (i : Station) (c : WandChar) : (s.wandComplete i c).sessions = s.sessions := by
  simp only [State.wandComplete]; repeat' split
  all_goals simp
@[simp] theorem State.wandComplete_lastGranted (i : Station) (c : WandChar) : (s.wandComplete i c).lastGranted = s.lastGranted := by
  simp only [State.wandComplete]; repeat' split
  all_goals simp
@[simp] theorem State.wandComplete_engine (i : Station) (c : WandChar) : (s.wandComplete i c).engine = s.engine := by
  simp only [State.wandComplete]; repeat' split
  all_goals simp
@[simp] theorem State.wandComplete_loans (i : Station) (c : WandChar) : (s.wandComplete i c).loans = s.loans := by
  simp only [State.wandComplete]; repeat' split
  all_goals simp
@[simp] theorem State.wandComplete_tables (i : Station) (c : WandChar) : (s.wandComplete i c).tables = s.tables := by
  simp only [State.wandComplete]; repeat' split
  all_goals simp
@[simp] theorem State.wandComplete_journal (i : Station) (c : WandChar) : (s.wandComplete i c).journal = s.journal := by
  simp only [State.wandComplete]; repeat' split
  all_goals simp
@[simp] theorem State.wandComplete_clock (i : Station) (c : WandChar) : (s.wandComplete i c).clock = s.clock := by
  simp only [State.wandComplete]; repeat' split
  all_goals simp
@[simp] theorem State.wandComplete_slips (i : Station) (c : WandChar) : (s.wandComplete i c).slips = s.slips := by
  simp only [State.wandComplete]; repeat' split
  all_goals simp
@[simp] theorem State.wandComplete_link (i : Station) (c : WandChar) : (s.wandComplete i c).link = s.link := by
  simp only [State.wandComplete]; repeat' split
  all_goals simp
@[simp] theorem State.wandComplete_config (i : Station) (c : WandChar) : (s.wandComplete i c).config = s.config := by
  simp only [State.wandComplete]; repeat' split
  all_goals simp
@[simp] theorem State.wandComplete_configStore (i : Station) (c : WandChar) : (s.wandComplete i c).configStore = s.configStore := by
  simp only [State.wandComplete]; repeat' split
  all_goals simp

/-! ### A step of the assembler (R6) -/

@[simp] theorem State.assembled_pending (i : Station) (r : AssemblerResult) : (s.assembled i r).pending = s.pending := by
  simp only [State.assembled]; repeat' split
  all_goals simp
@[simp] theorem State.assembled_draws (i : Station) (r : AssemblerResult) : (s.assembled i r).draws = s.draws := by
  simp only [State.assembled]; repeat' split
  all_goals simp
@[simp] theorem State.assembled_life (i : Station) (r : AssemblerResult) : (s.assembled i r).life = s.life := by
  simp only [State.assembled]; repeat' split
  all_goals simp
@[simp] theorem State.assembled_phase (i : Station) (r : AssemblerResult) : (s.assembled i r).phase = s.phase := by
  simp only [State.assembled]; repeat' split
  all_goals simp
@[simp] theorem State.assembled_startCause (i : Station) (r : AssemblerResult) : (s.assembled i r).startCause = s.startCause := by
  simp only [State.assembled]; repeat' split
  all_goals simp
@[simp] theorem State.assembled_heldCause (i : Station) (r : AssemblerResult) : (s.assembled i r).heldCause = s.heldCause := by
  simp only [State.assembled]; repeat' split
  all_goals simp
@[simp] theorem State.assembled_pins (i : Station) (r : AssemblerResult) : (s.assembled i r).pins = s.pins := by
  simp only [State.assembled]; repeat' split
  all_goals simp
@[simp] theorem State.assembled_ready (i : Station) (r : AssemblerResult) : (s.assembled i r).ready = s.ready := by
  simp only [State.assembled]; repeat' split
  all_goals simp
@[simp] theorem State.assembled_resetLine (i : Station) (r : AssemblerResult) : (s.assembled i r).resetLine = s.resetLine := by
  simp only [State.assembled]; repeat' split
  all_goals simp
@[simp] theorem State.assembled_levels (i : Station) (r : AssemblerResult) : (s.assembled i r).levels = s.levels := by
  simp only [State.assembled]; repeat' split
  all_goals simp
@[simp] theorem State.assembled_sessions (i : Station) (r : AssemblerResult) : (s.assembled i r).sessions = s.sessions := by
  simp only [State.assembled]; repeat' split
  all_goals simp
@[simp] theorem State.assembled_lastGranted (i : Station) (r : AssemblerResult) : (s.assembled i r).lastGranted = s.lastGranted := by
  simp only [State.assembled]; repeat' split
  all_goals simp
@[simp] theorem State.assembled_engine (i : Station) (r : AssemblerResult) : (s.assembled i r).engine = s.engine := by
  simp only [State.assembled]; repeat' split
  all_goals simp
@[simp] theorem State.assembled_loans (i : Station) (r : AssemblerResult) : (s.assembled i r).loans = s.loans := by
  simp only [State.assembled]; repeat' split
  all_goals simp
@[simp] theorem State.assembled_tables (i : Station) (r : AssemblerResult) : (s.assembled i r).tables = s.tables := by
  simp only [State.assembled]; repeat' split
  all_goals simp
@[simp] theorem State.assembled_journal (i : Station) (r : AssemblerResult) : (s.assembled i r).journal = s.journal := by
  simp only [State.assembled]; repeat' split
  all_goals simp
@[simp] theorem State.assembled_clock (i : Station) (r : AssemblerResult) : (s.assembled i r).clock = s.clock := by
  simp only [State.assembled]; repeat' split
  all_goals simp
@[simp] theorem State.assembled_slips (i : Station) (r : AssemblerResult) : (s.assembled i r).slips = s.slips := by
  simp only [State.assembled]; repeat' split
  all_goals simp
@[simp] theorem State.assembled_link (i : Station) (r : AssemblerResult) : (s.assembled i r).link = s.link := by
  simp only [State.assembled]; repeat' split
  all_goals simp
@[simp] theorem State.assembled_config (i : Station) (r : AssemblerResult) : (s.assembled i r).config = s.config := by
  simp only [State.assembled]; repeat' split
  all_goals simp
@[simp] theorem State.assembled_configStore (i : Station) (r : AssemblerResult) : (s.assembled i r).configStore = s.configStore := by
  simp only [State.assembled]; repeat' split
  all_goals simp

/-! ### A step of the assembler (R6) -/

@[simp] theorem State.assemblerStep_pending (i : Station) : (s.assemblerStep i).pending = s.pending := by
  simp only [State.assemblerStep]; repeat' split
  all_goals simp
@[simp] theorem State.assemblerStep_draws (i : Station) : (s.assemblerStep i).draws = s.draws := by
  simp only [State.assemblerStep]; repeat' split
  all_goals simp
@[simp] theorem State.assemblerStep_life (i : Station) : (s.assemblerStep i).life = s.life := by
  simp only [State.assemblerStep]; repeat' split
  all_goals simp
@[simp] theorem State.assemblerStep_phase (i : Station) : (s.assemblerStep i).phase = s.phase := by
  simp only [State.assemblerStep]; repeat' split
  all_goals simp
@[simp] theorem State.assemblerStep_startCause (i : Station) : (s.assemblerStep i).startCause = s.startCause := by
  simp only [State.assemblerStep]; repeat' split
  all_goals simp
@[simp] theorem State.assemblerStep_heldCause (i : Station) : (s.assemblerStep i).heldCause = s.heldCause := by
  simp only [State.assemblerStep]; repeat' split
  all_goals simp
@[simp] theorem State.assemblerStep_pins (i : Station) : (s.assemblerStep i).pins = s.pins := by
  simp only [State.assemblerStep]; repeat' split
  all_goals simp
@[simp] theorem State.assemblerStep_ready (i : Station) : (s.assemblerStep i).ready = s.ready := by
  simp only [State.assemblerStep]; repeat' split
  all_goals simp
@[simp] theorem State.assemblerStep_resetLine (i : Station) : (s.assemblerStep i).resetLine = s.resetLine := by
  simp only [State.assemblerStep]; repeat' split
  all_goals simp
@[simp] theorem State.assemblerStep_levels (i : Station) : (s.assemblerStep i).levels = s.levels := by
  simp only [State.assemblerStep]; repeat' split
  all_goals simp
@[simp] theorem State.assemblerStep_sessions (i : Station) : (s.assemblerStep i).sessions = s.sessions := by
  simp only [State.assemblerStep]; repeat' split
  all_goals simp
@[simp] theorem State.assemblerStep_lastGranted (i : Station) : (s.assemblerStep i).lastGranted = s.lastGranted := by
  simp only [State.assemblerStep]; repeat' split
  all_goals simp
@[simp] theorem State.assemblerStep_engine (i : Station) : (s.assemblerStep i).engine = s.engine := by
  simp only [State.assemblerStep]; repeat' split
  all_goals simp
@[simp] theorem State.assemblerStep_loans (i : Station) : (s.assemblerStep i).loans = s.loans := by
  simp only [State.assemblerStep]; repeat' split
  all_goals simp
@[simp] theorem State.assemblerStep_tables (i : Station) : (s.assemblerStep i).tables = s.tables := by
  simp only [State.assemblerStep]; repeat' split
  all_goals simp
@[simp] theorem State.assemblerStep_journal (i : Station) : (s.assemblerStep i).journal = s.journal := by
  simp only [State.assemblerStep]; repeat' split
  all_goals simp
@[simp] theorem State.assemblerStep_clock (i : Station) : (s.assemblerStep i).clock = s.clock := by
  simp only [State.assemblerStep]; repeat' split
  all_goals simp
@[simp] theorem State.assemblerStep_slips (i : Station) : (s.assemblerStep i).slips = s.slips := by
  simp only [State.assemblerStep]; repeat' split
  all_goals simp
@[simp] theorem State.assemblerStep_link (i : Station) : (s.assemblerStep i).link = s.link := by
  simp only [State.assemblerStep]; repeat' split
  all_goals simp
@[simp] theorem State.assemblerStep_config (i : Station) : (s.assemblerStep i).config = s.config := by
  simp only [State.assemblerStep]; repeat' split
  all_goals simp
@[simp] theorem State.assemblerStep_configStore (i : Station) : (s.assemblerStep i).configStore = s.configStore := by
  simp only [State.assemblerStep]; repeat' split
  all_goals simp

/-! ### A fragment (R10) -/

@[simp] theorem State.fragment_pending (i : Station) : (s.fragment i).pending = s.pending := by simp [State.fragment]
@[simp] theorem State.fragment_draws (i : Station) : (s.fragment i).draws = s.draws := by simp [State.fragment]
@[simp] theorem State.fragment_life (i : Station) : (s.fragment i).life = s.life := by simp [State.fragment]
@[simp] theorem State.fragment_phase (i : Station) : (s.fragment i).phase = s.phase := by simp [State.fragment]
@[simp] theorem State.fragment_startCause (i : Station) : (s.fragment i).startCause = s.startCause := by simp [State.fragment]
@[simp] theorem State.fragment_heldCause (i : Station) : (s.fragment i).heldCause = s.heldCause := by simp [State.fragment]
@[simp] theorem State.fragment_pins (i : Station) : (s.fragment i).pins = s.pins := by simp [State.fragment]
@[simp] theorem State.fragment_ready (i : Station) : (s.fragment i).ready = s.ready := by simp [State.fragment]
@[simp] theorem State.fragment_resetLine (i : Station) : (s.fragment i).resetLine = s.resetLine := by simp [State.fragment]
@[simp] theorem State.fragment_levels (i : Station) : (s.fragment i).levels = s.levels := by simp [State.fragment]
@[simp] theorem State.fragment_sessions (i : Station) : (s.fragment i).sessions = s.sessions := by simp [State.fragment]
@[simp] theorem State.fragment_lastGranted (i : Station) : (s.fragment i).lastGranted = s.lastGranted := by simp [State.fragment]
@[simp] theorem State.fragment_engine (i : Station) : (s.fragment i).engine = s.engine := by simp [State.fragment]
@[simp] theorem State.fragment_loans (i : Station) : (s.fragment i).loans = s.loans := by simp [State.fragment]
@[simp] theorem State.fragment_tables (i : Station) : (s.fragment i).tables = s.tables := by simp [State.fragment]
@[simp] theorem State.fragment_journal (i : Station) : (s.fragment i).journal = s.journal := by simp [State.fragment]
@[simp] theorem State.fragment_clock (i : Station) : (s.fragment i).clock = s.clock := by simp [State.fragment]
@[simp] theorem State.fragment_slips (i : Station) : (s.fragment i).slips = s.slips := by simp [State.fragment]
@[simp] theorem State.fragment_link (i : Station) : (s.fragment i).link = s.link := by simp [State.fragment]
@[simp] theorem State.fragment_config (i : Station) : (s.fragment i).config = s.config := by simp [State.fragment]
@[simp] theorem State.fragment_configStore (i : Station) : (s.fragment i).configStore = s.configStore := by simp [State.fragment]

/-! ### A validation ended (R112) -/

@[simp] theorem State.endValidation_pending : (s.endValidation).pending = s.pending := by
  simp only [State.endValidation]; repeat' split
  all_goals simp
@[simp] theorem State.endValidation_draws : (s.endValidation).draws = s.draws := by
  simp only [State.endValidation]; repeat' split
  all_goals simp
@[simp] theorem State.endValidation_life : (s.endValidation).life = s.life := by
  simp only [State.endValidation]; repeat' split
  all_goals simp
@[simp] theorem State.endValidation_phase : (s.endValidation).phase = s.phase := by
  simp only [State.endValidation]; repeat' split
  all_goals simp
@[simp] theorem State.endValidation_startCause : (s.endValidation).startCause = s.startCause := by
  simp only [State.endValidation]; repeat' split
  all_goals simp
@[simp] theorem State.endValidation_heldCause : (s.endValidation).heldCause = s.heldCause := by
  simp only [State.endValidation]; repeat' split
  all_goals simp
@[simp] theorem State.endValidation_pins : (s.endValidation).pins = s.pins := by
  simp only [State.endValidation]; repeat' split
  all_goals simp
@[simp] theorem State.endValidation_ready : (s.endValidation).ready = s.ready := by
  simp only [State.endValidation]; repeat' split
  all_goals simp
@[simp] theorem State.endValidation_resetLine : (s.endValidation).resetLine = s.resetLine := by
  simp only [State.endValidation]; repeat' split
  all_goals simp
@[simp] theorem State.endValidation_levels : (s.endValidation).levels = s.levels := by
  simp only [State.endValidation]; repeat' split
  all_goals simp
@[simp] theorem State.endValidation_channels : (s.endValidation).channels = s.channels := by
  simp only [State.endValidation]; repeat' split
  all_goals simp
@[simp] theorem State.endValidation_sessions : (s.endValidation).sessions = s.sessions := by
  simp only [State.endValidation]; repeat' split
  all_goals simp
@[simp] theorem State.endValidation_lastGranted : (s.endValidation).lastGranted = s.lastGranted := by
  simp only [State.endValidation]; repeat' split
  all_goals simp
@[simp] theorem State.endValidation_engine : (s.endValidation).engine = s.engine := by
  simp only [State.endValidation]; repeat' split
  all_goals simp
@[simp] theorem State.endValidation_loans : (s.endValidation).loans = s.loans := by
  simp only [State.endValidation]; repeat' split
  all_goals simp
@[simp] theorem State.endValidation_clock : (s.endValidation).clock = s.clock := by
  simp only [State.endValidation]; repeat' split
  all_goals simp
@[simp] theorem State.endValidation_slips : (s.endValidation).slips = s.slips := by
  simp only [State.endValidation]; repeat' split
  all_goals simp
@[simp] theorem State.endValidation_link : (s.endValidation).link = s.link := by
  simp only [State.endValidation]; repeat' split
  all_goals simp
@[simp] theorem State.endValidation_config : (s.endValidation).config = s.config := by
  simp only [State.endValidation]; repeat' split
  all_goals simp
@[simp] theorem State.endValidation_configStore : (s.endValidation).configStore = s.configStore := by
  simp only [State.endValidation]; repeat' split
  all_goals simp

/-! ### A Configure's response sent (R172) -/

@[simp] theorem State.configureSent_pending (r : Nat) : (s.configureSent r).pending = s.pending := by
  simp only [State.configureSent]; repeat' split
  all_goals simp
@[simp] theorem State.configureSent_draws (r : Nat) : (s.configureSent r).draws = s.draws := by
  simp only [State.configureSent]; repeat' split
  all_goals simp
@[simp] theorem State.configureSent_life (r : Nat) : (s.configureSent r).life = s.life := by
  simp only [State.configureSent]; repeat' split
  all_goals simp
@[simp] theorem State.configureSent_phase (r : Nat) : (s.configureSent r).phase = s.phase := by
  simp only [State.configureSent]; repeat' split
  all_goals simp
@[simp] theorem State.configureSent_startCause (r : Nat) : (s.configureSent r).startCause = s.startCause := by
  simp only [State.configureSent]; repeat' split
  all_goals simp
@[simp] theorem State.configureSent_heldCause (r : Nat) : (s.configureSent r).heldCause = s.heldCause := by
  simp only [State.configureSent]; repeat' split
  all_goals simp
@[simp] theorem State.configureSent_pins (r : Nat) : (s.configureSent r).pins = s.pins := by
  simp only [State.configureSent]; repeat' split
  all_goals simp
@[simp] theorem State.configureSent_ready (r : Nat) : (s.configureSent r).ready = s.ready := by
  simp only [State.configureSent]; repeat' split
  all_goals simp
@[simp] theorem State.configureSent_resetLine (r : Nat) : (s.configureSent r).resetLine = s.resetLine := by
  simp only [State.configureSent]; repeat' split
  all_goals simp
@[simp] theorem State.configureSent_levels (r : Nat) : (s.configureSent r).levels = s.levels := by
  simp only [State.configureSent]; repeat' split
  all_goals simp
@[simp] theorem State.configureSent_channels (r : Nat) : (s.configureSent r).channels = s.channels := by
  simp only [State.configureSent]; repeat' split
  all_goals simp
@[simp] theorem State.configureSent_sessions (r : Nat) : (s.configureSent r).sessions = s.sessions := by
  simp only [State.configureSent]; repeat' split
  all_goals simp
@[simp] theorem State.configureSent_lastGranted (r : Nat) : (s.configureSent r).lastGranted = s.lastGranted := by
  simp only [State.configureSent]; repeat' split
  all_goals simp
@[simp] theorem State.configureSent_engine (r : Nat) : (s.configureSent r).engine = s.engine := by
  simp only [State.configureSent]; repeat' split
  all_goals simp
@[simp] theorem State.configureSent_loans (r : Nat) : (s.configureSent r).loans = s.loans := by
  simp only [State.configureSent]; repeat' split
  all_goals simp
@[simp] theorem State.configureSent_tables (r : Nat) : (s.configureSent r).tables = s.tables := by
  simp only [State.configureSent]; repeat' split
  all_goals simp
@[simp] theorem State.configureSent_journal (r : Nat) : (s.configureSent r).journal = s.journal := by
  simp only [State.configureSent]; repeat' split
  all_goals simp
@[simp] theorem State.configureSent_clock (r : Nat) : (s.configureSent r).clock = s.clock := by
  simp only [State.configureSent]; repeat' split
  all_goals simp
@[simp] theorem State.configureSent_slips (r : Nat) : (s.configureSent r).slips = s.slips := by
  simp only [State.configureSent]; repeat' split
  all_goals simp
@[simp] theorem State.configureSent_config (r : Nat) : (s.configureSent r).config = s.config := by
  simp only [State.configureSent]; repeat' split
  all_goals simp
@[simp] theorem State.configureSent_configStore (r : Nat) : (s.configureSent r).configStore = s.configStore := by
  simp only [State.configureSent]; repeat' split
  all_goals simp
@[simp] theorem State.configureSent_latched (r : Nat) : (s.configureSent r).latched = s.latched := by
  simp only [State.configureSent]; repeat' split
  all_goals simp

/-! ### A frame begun (R176) -/

@[simp] theorem State.transmit_pending : (s.transmit).pending = s.pending := by
  simp only [State.transmit]; repeat' split
  all_goals simp
@[simp] theorem State.transmit_draws : (s.transmit).draws = s.draws := by
  simp only [State.transmit]; repeat' split
  all_goals simp
@[simp] theorem State.transmit_life : (s.transmit).life = s.life := by
  simp only [State.transmit]; repeat' split
  all_goals simp
@[simp] theorem State.transmit_phase : (s.transmit).phase = s.phase := by
  simp only [State.transmit]; repeat' split
  all_goals simp
@[simp] theorem State.transmit_startCause : (s.transmit).startCause = s.startCause := by
  simp only [State.transmit]; repeat' split
  all_goals simp
@[simp] theorem State.transmit_heldCause : (s.transmit).heldCause = s.heldCause := by
  simp only [State.transmit]; repeat' split
  all_goals simp
@[simp] theorem State.transmit_pins : (s.transmit).pins = s.pins := by
  simp only [State.transmit]; repeat' split
  all_goals simp
@[simp] theorem State.transmit_ready : (s.transmit).ready = s.ready := by
  simp only [State.transmit]; repeat' split
  all_goals simp
@[simp] theorem State.transmit_resetLine : (s.transmit).resetLine = s.resetLine := by
  simp only [State.transmit]; repeat' split
  all_goals simp
@[simp] theorem State.transmit_levels : (s.transmit).levels = s.levels := by
  simp only [State.transmit]; repeat' split
  all_goals simp
@[simp] theorem State.transmit_channels : (s.transmit).channels = s.channels := by
  simp only [State.transmit]; repeat' split
  all_goals simp
@[simp] theorem State.transmit_sessions : (s.transmit).sessions = s.sessions := by
  simp only [State.transmit]; repeat' split
  all_goals simp
@[simp] theorem State.transmit_lastGranted : (s.transmit).lastGranted = s.lastGranted := by
  simp only [State.transmit]; repeat' split
  all_goals simp
@[simp] theorem State.transmit_engine : (s.transmit).engine = s.engine := by
  simp only [State.transmit]; repeat' split
  all_goals simp
@[simp] theorem State.transmit_loans : (s.transmit).loans = s.loans := by
  simp only [State.transmit]; repeat' split
  all_goals simp
@[simp] theorem State.transmit_tables : (s.transmit).tables = s.tables := by
  simp only [State.transmit]; repeat' split
  all_goals simp
@[simp] theorem State.transmit_journal : (s.transmit).journal = s.journal := by
  simp only [State.transmit]; repeat' split
  all_goals simp
@[simp] theorem State.transmit_clock : (s.transmit).clock = s.clock := by
  simp only [State.transmit]; repeat' split
  all_goals simp
@[simp] theorem State.transmit_slips : (s.transmit).slips = s.slips := by
  simp only [State.transmit]; repeat' split
  all_goals simp
@[simp] theorem State.transmit_config : (s.transmit).config = s.config := by
  simp only [State.transmit]; repeat' split
  all_goals simp
@[simp] theorem State.transmit_configStore : (s.transmit).configStore = s.configStore := by
  simp only [State.transmit]; repeat' split
  all_goals simp
@[simp] theorem State.transmit_latched : (s.transmit).latched = s.latched := by
  simp only [State.transmit]; repeat' split
  all_goals simp

/-! ### Outcomes -/

/-- Every command's outcome is a next state. -/
theorem finish_next (t : State) : finish s t = .next (settle s t) := rfl

/-- What settling can do: begin a notice, and nothing else (R177). -/
theorem settle_cases (t : State) : settle s t = t ∨ settle s t = { t with link := { t.link with tx := t.link.tx ++ [.notice] } } := by
  simp only [settle, Link.addNotice]
  split
  · split
    · exact .inl rfl
    · exact .inr rfl
  · exact .inl rfl

@[simp] theorem settle_pending (t : State) : (settle s t).pending = t.pending := by
  rcases settle_cases s t with h | h <;> rw [h]
@[simp] theorem settle_draws (t : State) : (settle s t).draws = t.draws := by
  rcases settle_cases s t with h | h <;> rw [h]
@[simp] theorem settle_life (t : State) : (settle s t).life = t.life := by
  rcases settle_cases s t with h | h <;> rw [h]
@[simp] theorem settle_phase (t : State) : (settle s t).phase = t.phase := by
  rcases settle_cases s t with h | h <;> rw [h]
@[simp] theorem settle_startCause (t : State) : (settle s t).startCause = t.startCause := by
  rcases settle_cases s t with h | h <;> rw [h]
@[simp] theorem settle_heldCause (t : State) : (settle s t).heldCause = t.heldCause := by
  rcases settle_cases s t with h | h <;> rw [h]
@[simp] theorem settle_pins (t : State) : (settle s t).pins = t.pins := by
  rcases settle_cases s t with h | h <;> rw [h]
@[simp] theorem settle_ready (t : State) : (settle s t).ready = t.ready := by
  rcases settle_cases s t with h | h <;> rw [h]
@[simp] theorem settle_resetLine (t : State) : (settle s t).resetLine = t.resetLine := by
  rcases settle_cases s t with h | h <;> rw [h]
@[simp] theorem settle_levels (t : State) : (settle s t).levels = t.levels := by
  rcases settle_cases s t with h | h <;> rw [h]
@[simp] theorem settle_channels (t : State) : (settle s t).channels = t.channels := by
  rcases settle_cases s t with h | h <;> rw [h]
@[simp] theorem settle_sessions (t : State) : (settle s t).sessions = t.sessions := by
  rcases settle_cases s t with h | h <;> rw [h]
@[simp] theorem settle_lastGranted (t : State) : (settle s t).lastGranted = t.lastGranted := by
  rcases settle_cases s t with h | h <;> rw [h]
@[simp] theorem settle_engine (t : State) : (settle s t).engine = t.engine := by
  rcases settle_cases s t with h | h <;> rw [h]
@[simp] theorem settle_loans (t : State) : (settle s t).loans = t.loans := by
  rcases settle_cases s t with h | h <;> rw [h]
@[simp] theorem settle_tables (t : State) : (settle s t).tables = t.tables := by
  rcases settle_cases s t with h | h <;> rw [h]
@[simp] theorem settle_journal (t : State) : (settle s t).journal = t.journal := by
  rcases settle_cases s t with h | h <;> rw [h]
@[simp] theorem settle_clock (t : State) : (settle s t).clock = t.clock := by
  rcases settle_cases s t with h | h <;> rw [h]
@[simp] theorem settle_slips (t : State) : (settle s t).slips = t.slips := by
  rcases settle_cases s t with h | h <;> rw [h]
@[simp] theorem settle_config (t : State) : (settle s t).config = t.config := by
  rcases settle_cases s t with h | h <;> rw [h]
@[simp] theorem settle_configStore (t : State) : (settle s t).configStore = t.configStore := by
  rcases settle_cases s t with h | h <;> rw [h]
@[simp] theorem settle_latched (t : State) : (settle s t).latched = t.latched := by
  rcases settle_cases s t with h | h <;> rw [h]

end Sys2Proof.Machine
end

