-- ==== Sys2Proof/WellFormed.lean ====
section
/-! DEFINITION. Which commands are well formed: the row and its operands agree (a request row carries a frame of its own length). The machine gives every command a meaning, well formed or not (a frame of the wrong length is answered FORMAT, R175). -/

namespace Sys2Proof

/-- The payload lengths that Table 14 and R186 fix, for the rows whose payload is kept as bytes; an UNKNOWN_REQUEST frame has a
type below 80h that is not in Table 14 (R175), and no payload passes 240 bytes (Table 13). -/
def Instr.wellFormed : Instr → Bool
  | .configure record => record.length == 162
  | .loadEntries _ _ entries => decide (entries.length ≤ 238)
  | .patchBorrowerInsert _ entry => entry.length == 16
  | .patchItemInsert _ entry => entry.length == 16
  | .unknownRequest type payload =>
    decide (type.toNat < 0x80) && !decide (1 ≤ type.toNat ∧ type.toNat ≤ 0x17) && decide (payload.length ≤ 240)
  | _ => true

end Sys2Proof
end

