-- ==== Sys2Proof/Laws/PerInstr.lean ====
section
/-! SUPPORT. A statement proved for every command: the frame of a well-formed command fits the link. -/

namespace Sys2Proof.Laws.FrameFits

open Sys2Proof Sys2Proof.Machine

/-- The payload of the request frame that a row stands for, none for a row that is an event (Table 14). -/
def payloadOf : Instr → Option (List Byte)
  | .wandCharacterComplete _ _ _ _ => none
  | .wandWaitMarkEnd _ => none
  | .assemblerStep _ => none
  | .gapTimerExpiry _ => none
  | .selectorChange _ _ => none
  | .paperOutChange _ => none
  | .maintenanceChange _ => none
  | .outcomePatternTimer _ => none
  | .outcomePatternEnd _ => none
  | .arbiterGrant => none
  | .idleTimerExpiry _ => none
  | .staffWindowExpiry _ => none
  | .slipWaitExpiry _ => none
  | .slipReoffer _ => none
  | .journalTurn => none
  | .recordWriteCompletion => none
  | .replayEnd => none
  | .eraseStart => none
  | .eraseComplete => none
  | .copyEnd => none
  | .validationEnd => none
  | .configureStoreComplete => none
  | .timebaseEdge => none
  | .timebaseLoss => none
  | .printerByteAccepted => none
  | .printerReadyChange _ => none
  | .printerStallExpiry => none
  | .linkCharacter _ _ => none
  | .linkGapTimeout => none
  | .linkWaitMarkEnd => none
  | .linkBreak => none
  | .unknownRequest _ payload => some payload
  | .statusRead sect clear => some (Request.statusRead sect clear).payload
  | .access code => some (Request.access code).payload
  | .leave => some (Request.leave).payload
  | .clockSet day minute => some (Request.clockSet day minute).payload
  | .clockAdjust minutes => some (Request.clockAdjust minutes).payload
  | .stationControlSetMode station mode => some (Request.stationControl station 0 mode).payload
  | .stationControlCloseSession station mode => some (Request.stationControl station 1 mode).payload
  | .configure record => some (Request.configure record).payload
  | .configureRead => some (Request.configureRead).payload
  | .beginTable table count => some (Request.beginTable table count).payload
  | .loadEntries table count entries => some (Request.loadEntries table count entries).payload
  | .endTable table crc => some (Request.endTable table crc).payload
  | .abortLoad table => some (Request.abortLoad table).payload
  | .copyTable table => some (Request.copyTable table).payload
  | .commitSet s => some (Request.commitSet s).payload
  | .patchBorrowerSetFlags card mask => some (Request.patchBorrower 0 card [mask]).payload
  | .patchBorrowerClearFlags card mask => some (Request.patchBorrower 1 card [mask]).payload
  | .patchBorrowerSetFines card fines => some (Request.patchBorrower 2 card (beBytes 2 fines.toNat)).payload
  | .patchBorrowerSetExpiry card day => some (Request.patchBorrower 3 card (beBytes 2 day.toNat)).payload
  | .patchBorrowerInsert card entry => some (Request.patchBorrower 4 card entry).payload
  | .patchBorrowerDelete card => some (Request.patchBorrower 5 card []).payload
  | .patchItemInsert item entry => some (Request.patchItem 0 item entry).payload
  | .patchItemDelete item => some (Request.patchItem 1 item []).payload
  | .patchItemSetState item state holdCard holdExpiry => some (Request.patchItem 2 item (setStateOperand state holdCard holdExpiry)).payload
  | .readEntryLiveTable table key => some (Request.readEntry 0 table key).payload
  | .readEntryLocalLoanList table key => some (Request.readEntry 1 table key).payload
  | .journalRead s => some (Request.journalRead s).payload
  | .journalRelease s => some (Request.journalRelease s).payload
  | .printerControlStop => some (Request.printerControl 0).payload
  | .printerControlResume => some (Request.printerControl 1).payload
  | .printerControlAbort => some (Request.printerControl 2).payload
  | .printerControlReprint => some (Request.printerControl 3).payload
  | .clearConditions mask => some (Request.clearConditions mask).payload
  | .setProtection patchMask loadMask low high complement lock => some (Request.setProtection patchMask loadMask low high complement lock).payload
  | .setCodes level1 level2 => some (Request.setCodes level1 level2).payload
  | .setCodesEmpty => some (Request.setCodesEmpty).payload
  | .restart => some (Request.restart).payload
  | .transmitFrameStart => none
  | .transmitFrameEnd => none
  | .powerOn => none
  | .resetLineAssert => none
  | .resetEntered => none
  | .resetLineRelease => none
  | .recoveryComplete => none
  | .powerLoss _ _ => none
  | .wandCharacterStart _ => none

/-- The payload of a well-formed command's frame passes no 240 bytes (Table 13). -/
def Statement (i : Instr) : Prop := i.wellFormed = true → ∀ p ∈ payloadOf i, p.length ≤ 240

theorem wandCharacterComplete (station : Station) (data : Byte) (parity stop : Bool) : Statement (.wandCharacterComplete station data parity stop) := fun _ p h => by cases h
theorem wandWaitMarkEnd (station : Station) : Statement (.wandWaitMarkEnd station) := fun _ p h => by cases h
theorem assemblerStep (station : Station) : Statement (.assemblerStep station) := fun _ p h => by cases h
theorem gapTimerExpiry (station : Station) : Statement (.gapTimerExpiry station) := fun _ p h => by cases h
theorem selectorChange (station : Station) (level : SelectorLevel) : Statement (.selectorChange station level) := fun _ p h => by cases h
theorem paperOutChange (out : Bool) : Statement (.paperOutChange out) := fun _ p h => by cases h
theorem maintenanceChange (asserted : Bool) : Statement (.maintenanceChange asserted) := fun _ p h => by cases h
theorem outcomePatternTimer (station : Station) : Statement (.outcomePatternTimer station) := fun _ p h => by cases h
theorem outcomePatternEnd (station : Station) : Statement (.outcomePatternEnd station) := fun _ p h => by cases h
theorem arbiterGrant : Statement .arbiterGrant := fun _ p h => by cases h
theorem idleTimerExpiry (station : Station) : Statement (.idleTimerExpiry station) := fun _ p h => by cases h
theorem staffWindowExpiry (station : Station) : Statement (.staffWindowExpiry station) := fun _ p h => by cases h
theorem slipWaitExpiry (station : Station) : Statement (.slipWaitExpiry station) := fun _ p h => by cases h
theorem slipReoffer (station : Station) : Statement (.slipReoffer station) := fun _ p h => by cases h
theorem journalTurn : Statement .journalTurn := fun _ p h => by cases h
theorem recordWriteCompletion : Statement .recordWriteCompletion := fun _ p h => by cases h
theorem replayEnd : Statement .replayEnd := fun _ p h => by cases h
theorem eraseStart : Statement .eraseStart := fun _ p h => by cases h
theorem eraseComplete : Statement .eraseComplete := fun _ p h => by cases h
theorem copyEnd : Statement .copyEnd := fun _ p h => by cases h
theorem validationEnd : Statement .validationEnd := fun _ p h => by cases h
theorem configureStoreComplete : Statement .configureStoreComplete := fun _ p h => by cases h
theorem timebaseEdge : Statement .timebaseEdge := fun _ p h => by cases h
theorem timebaseLoss : Statement .timebaseLoss := fun _ p h => by cases h
theorem printerByteAccepted : Statement .printerByteAccepted := fun _ p h => by cases h
theorem printerReadyChange (ready : Bool) : Statement (.printerReadyChange ready) := fun _ p h => by cases h
theorem printerStallExpiry : Statement .printerStallExpiry := fun _ p h => by cases h
theorem linkCharacter (value : Byte) (stop : Bool) : Statement (.linkCharacter value stop) := fun _ p h => by cases h
theorem linkGapTimeout : Statement .linkGapTimeout := fun _ p h => by cases h
theorem linkWaitMarkEnd : Statement .linkWaitMarkEnd := fun _ p h => by cases h
theorem linkBreak : Statement .linkBreak := fun _ p h => by cases h
theorem unknownRequest (type : Byte) (payload : List Byte) : Statement (.unknownRequest type payload) := by
  intro h p hp
  cases hp
  simp [Instr.wellFormed] at h
  exact h.2
theorem statusRead (sect clear : Byte) : Statement (.statusRead sect clear) := by
  intro _ p hp
  cases hp
  simp [Request.payload]
theorem access (code : BitVec 32) : Statement (.access code) := by
  intro _ p hp
  cases hp
  simp [Request.payload, beBytes]
theorem leave : Statement .leave := by
  intro _ p hp
  cases hp
  simp [Request.payload]
theorem clockSet (day minute : BitVec 16) : Statement (.clockSet day minute) := by
  intro _ p hp
  cases hp
  simp [Request.payload, beBytes]
theorem clockAdjust (minutes : Byte) : Statement (.clockAdjust minutes) := by
  intro _ p hp
  cases hp
  simp [Request.payload]
theorem stationControlSetMode (station mode : Byte) : Statement (.stationControlSetMode station mode) := by
  intro _ p hp
  cases hp
  simp [Request.payload]
theorem stationControlCloseSession (station mode : Byte) : Statement (.stationControlCloseSession station mode) := by
  intro _ p hp
  cases hp
  simp [Request.payload]
theorem configure (record : List Byte) : Statement (.configure record) := by
  intro h p hp
  cases hp
  simp [Instr.wellFormed] at h
  simp [Request.payload, h]
theorem configureRead : Statement .configureRead := by
  intro _ p hp
  cases hp
  simp [Request.payload]
theorem beginTable (table : Byte) (count : BitVec 16) : Statement (.beginTable table count) := by
  intro _ p hp
  cases hp
  simp [Request.payload, beBytes]
theorem loadEntries (table count : Byte) (entries : List Byte) : Statement (.loadEntries table count entries) := by
  intro h p hp
  cases hp
  simp [Instr.wellFormed] at h
  simp [Request.payload]
  omega
theorem endTable (table : Byte) (crc : BitVec 16) : Statement (.endTable table crc) := by
  intro _ p hp
  cases hp
  simp [Request.payload, beBytes]
theorem abortLoad (table : Byte) : Statement (.abortLoad table) := by
  intro _ p hp
  cases hp
  simp [Request.payload]
theorem copyTable (table : Byte) : Statement (.copyTable table) := by
  intro _ p hp
  cases hp
  simp [Request.payload]
theorem commitSet (s : BitVec 32) : Statement (.commitSet s) := by
  intro _ p hp
  cases hp
  simp [Request.payload, beBytes]
theorem patchBorrowerSetFlags (card : BitVec 48) (mask : Byte) : Statement (.patchBorrowerSetFlags card mask) := by
  intro _ p hp
  cases hp
  simp [Request.payload, beBytes]
theorem patchBorrowerClearFlags (card : BitVec 48) (mask : Byte) : Statement (.patchBorrowerClearFlags card mask) := by
  intro _ p hp
  cases hp
  simp [Request.payload, beBytes]
theorem patchBorrowerSetFines (card : BitVec 48) (fines : BitVec 16) : Statement (.patchBorrowerSetFines card fines) := by
  intro _ p hp
  cases hp
  simp [Request.payload, beBytes]
theorem patchBorrowerSetExpiry (card : BitVec 48) (day : BitVec 16) : Statement (.patchBorrowerSetExpiry card day) := by
  intro _ p hp
  cases hp
  simp [Request.payload, beBytes]
theorem patchBorrowerInsert (card : BitVec 48) (entry : List Byte) : Statement (.patchBorrowerInsert card entry) := by
  intro h p hp
  cases hp
  simp [Instr.wellFormed] at h
  simp [Request.payload, beBytes, h]
theorem patchBorrowerDelete (card : BitVec 48) : Statement (.patchBorrowerDelete card) := by
  intro _ p hp
  cases hp
  simp [Request.payload, beBytes]
theorem patchItemInsert (item : BitVec 48) (entry : List Byte) : Statement (.patchItemInsert item entry) := by
  intro h p hp
  cases hp
  simp [Instr.wellFormed] at h
  simp [Request.payload, beBytes, h]
theorem patchItemDelete (item : BitVec 48) : Statement (.patchItemDelete item) := by
  intro _ p hp
  cases hp
  simp [Request.payload, beBytes]
theorem patchItemSetState (item : BitVec 48) (state : Byte) (holdCard : BitVec 48) (holdExpiry : BitVec 16) : Statement (.patchItemSetState item state holdCard holdExpiry) := by
  intro _ p hp
  cases hp
  simp [Request.payload, beBytes, setStateOperand]
theorem readEntryLiveTable (table : Byte) (key : BitVec 48) : Statement (.readEntryLiveTable table key) := by
  intro _ p hp
  cases hp
  simp [Request.payload, beBytes]
theorem readEntryLocalLoanList (table : Byte) (key : BitVec 48) : Statement (.readEntryLocalLoanList table key) := by
  intro _ p hp
  cases hp
  simp [Request.payload, beBytes]
theorem journalRead (s : BitVec 32) : Statement (.journalRead s) := by
  intro _ p hp
  cases hp
  simp [Request.payload, beBytes]
theorem journalRelease (s : BitVec 32) : Statement (.journalRelease s) := by
  intro _ p hp
  cases hp
  simp [Request.payload, beBytes]
theorem printerControlStop : Statement .printerControlStop := by
  intro _ p hp
  cases hp
  simp [Request.payload]
theorem printerControlResume : Statement .printerControlResume := by
  intro _ p hp
  cases hp
  simp [Request.payload]
theorem printerControlAbort : Statement .printerControlAbort := by
  intro _ p hp
  cases hp
  simp [Request.payload]
theorem printerControlReprint : Statement .printerControlReprint := by
  intro _ p hp
  cases hp
  simp [Request.payload]
theorem clearConditions (mask : BitVec 32) : Statement (.clearConditions mask) := by
  intro _ p hp
  cases hp
  simp [Request.payload, beBytes]
theorem setProtection (patchMask loadMask : Byte) (low high : BitVec 48) (complement lock : Byte) : Statement (.setProtection patchMask loadMask low high complement lock) := by
  intro _ p hp
  cases hp
  simp [Request.payload, beBytes]
theorem setCodes (level1 level2 : BitVec 32) : Statement (.setCodes level1 level2) := by
  intro _ p hp
  cases hp
  simp [Request.payload, beBytes]
theorem setCodesEmpty : Statement .setCodesEmpty := by
  intro _ p hp
  cases hp
  simp [Request.payload]
theorem restart : Statement .restart := by
  intro _ p hp
  cases hp
  simp [Request.payload]
theorem transmitFrameStart : Statement .transmitFrameStart := fun _ p h => by cases h
theorem transmitFrameEnd : Statement .transmitFrameEnd := fun _ p h => by cases h
theorem powerOn : Statement .powerOn := fun _ p h => by cases h
theorem resetLineAssert : Statement .resetLineAssert := fun _ p h => by cases h
theorem resetEntered : Statement .resetEntered := fun _ p h => by cases h
theorem resetLineRelease : Statement .resetLineRelease := fun _ p h => by cases h
theorem recoveryComplete : Statement .recoveryComplete := fun _ p h => by cases h
theorem powerLoss (slot : SlotCut) (configureStored : Bool) : Statement (.powerLoss slot configureStored) := fun _ p h => by cases h
theorem wandCharacterStart (station : Station) : Statement (.wandCharacterStart station) := fun _ p h => by cases h

end Sys2Proof.Laws.FrameFits
end

