-- ==== Sys2Proof/Laws/Requests.lean ====
section
/-! SUPPORT. What the taking of a request frame can do, what each block's shared operations can do, and the equations that statements about requests and starts rest on. -/

namespace Sys2Proof.Machine

open Config

/-! ### Taking a frame (R175, R176) -/

/-- Everything the taking of a frame can do. -/
theorem State.takeFrame_cases (s : State) (type : Nat) (p : Parsed) :
    s.takeFrame type p = s ∨ (s.takeFrame type p = s.countLinkError ∧ responseDepth ≤ s.link.responses) ∨
      (s.takeFrame type p = (s.answer type p).respond type p ∧ s.life = .on ∧ s.link.shut = false
        ∧ s.link.responses < responseDepth ∧ type < 0x80) := by
  simp only [State.takeFrame]
  split
  · next h =>
    simp only [Bool.and_eq_true, beq_iff_eq, Bool.not_eq_true'] at h
    split
    · next hr => exact .inr (.inl ⟨rfl, hr⟩)
    · next hr =>
      split
      · exact .inl rfl
      · next ht => exact .inr (.inr ⟨rfl, h.1, h.2, by omega, by omega⟩)
  · exact .inl rfl

/-- Everything the answer to a frame can be: a status alone that changes nothing, or what the request itself does. -/
theorem State.answer_cases (s : State) (type : Nat) (p : Parsed) :
    (∃ st, s.answer type p = s.deny st) ∨ ∃ r, p = .request r ∧ s.fits r = true ∧ s.answer type p = s.serve r := by
  simp only [State.answer]
  split
  · exact .inl ⟨_, rfl⟩
  · split
    · exact .inl ⟨_, rfl⟩
    · split
      · exact .inl ⟨_, rfl⟩
      · split
        · next r =>
          by_cases hf : s.fits r = true
          · rw [if_pos hf]; exact .inr ⟨r, rfl, hf, rfl⟩
          · rw [if_neg hf]; exact .inl ⟨_, rfl⟩
        · exact .inl ⟨_, rfl⟩
        · exact .inl ⟨_, rfl⟩

theorem State.deny_state (s : State) (st : Status) : (s.deny st).state = s := rfl
theorem State.done_state (s : State) : s.done.state = s := rfl

/-- A request that passes the checks of R175 is served. -/
theorem State.takeRequest_served {s : State} {r : Request} {level : Nat} (hl : requestLevel r.typeCode = some level)
    (hs : s.serves level = true) (hf : s.fits r = true) : s.takeRequest r = (s.serve r).respond r.typeCode (.request r) := by
  simp only [State.serves, Bool.and_eq_true, beq_iff_eq, decide_eq_true_eq, Bool.not_eq_true'] at hs
  obtain ⟨⟨⟨⟨h1, h2⟩, h3⟩, h4⟩, h5⟩ := hs
  have ht : ¬0x80 ≤ r.typeCode := by cases r <;> simp [Request.typeCode]
  simp only [State.takeRequest, State.takeFrame, h1, h2, beq_self_eq_true, Bool.not_false, Bool.and_self, if_true,
    if_neg (Nat.not_le.mpr h3), if_neg ht, State.answer, hl, h4, bne_self_eq_false, Bool.false_and, Bool.false_eq_true, if_false,
    if_neg (Nat.not_lt.mpr h5), hf]

/-- A served request whose response brings nothing more leaves what its answer says. -/
theorem finish_served {s : State} {r : Request} {level : Nat} (hl : requestLevel r.typeCode = some level) (hs : s.serves level = true)
    (hf : s.fits r = true) (ht : (s.serve r).tag (.request r) = .plain) :
    finish s (s.takeRequest r)
      = .next (answered s (s.serve r).state (r.typeCode + 0x80) (byte (s.serve r).status.code :: (s.serve r).fields)) := by
  rw [State.takeRequest_served hl hs hf]
  simp only [Answer.respond, ht]
  rfl

/-! ### Starting again (R192) -/

/-- A Restart goes on only from its wait, once nothing nonvolatile is in progress. -/
theorem State.restartNow_cases (s : State) :
    s.restartNow = s ∨ (s.restartNow = s.resetBlocks.startUp .restartRequest ∧ s.life = .waitRestart ∧ s.storing = false) := by
  simp only [State.restartNow]
  split
  · next h => simp only [Bool.and_eq_true, beq_iff_eq, Bool.not_eq_true'] at h; exact .inr ⟨rfl, h⟩
  · exact .inl rfl

theorem State.restartNow_of_on {s : State} (h : s.life = .on) : s.restartNow = s := by
  simp [State.restartNow, h]

theorem State.restartNow_of_not_waiting {s : State} (h : s.life ≠ .waitRestart) : s.restartNow = s := by
  simp [State.restartNow, h]

/-- A state settled against itself begins no notice. -/
@[simp] theorem settle_self (s : State) : settle s s = s := by
  have h : activated s s = false := by simp [activated]
  simp [settle, h]

/-- A completion answers a next state: where no Restart waits, that of the completion alone, and otherwise what the Restart makes of it. -/
theorem finishStore_next (s t : State) : finishStore s t = .next (settle (settle s t) (settle s t).restartNow) := rfl

theorem finishStore_of_not_waiting {s t : State} (h : t.life ≠ .waitRestart) : finishStore s t = .next (settle s t) := by
  rw [finishStore_next, State.restartNow_of_not_waiting (by rw [settle_life]; exact h), settle_self]

/-- The reset line's reset is entered only from its wait, once nothing nonvolatile is in progress. -/
theorem State.enterReset_cases (s : State) :
    s.enterReset = s ∨ (s.enterReset = { s.repaired.resetBlocks with life := .inReset } ∧ s.resetLine = true) ∨
      (s.enterReset = s.repaired.resetBlocks.startUp .resetLine ∧ s.resetLine = false) := by
  simp only [State.enterReset]
  split
  · split
    · next h => exact .inr (.inl ⟨rfl, h⟩)
    · next h => exact .inr (.inr ⟨rfl, by simpa using h⟩)
  · exact .inl rfl

/-- What the reset of every block keeps and what it clears. -/
@[simp] theorem State.resetBlocks_config (s : State) : s.resetBlocks.config = s.config := rfl
@[simp] theorem State.resetBlocks_latched (s : State) : s.resetBlocks.latched = s.latched := rfl
@[simp] theorem State.resetBlocks_pending (s : State) : s.resetBlocks.pending = s.pending := rfl
@[simp] theorem State.resetBlocks_slots (s : State) : s.resetBlocks.journal.slots = s.journal.slots := rfl
@[simp] theorem State.resetBlocks_released (s : State) : s.resetBlocks.journal.released = s.journal.released := rfl
@[simp] theorem State.resetBlocks_loans (s : State) : s.resetBlocks.loans = [] := rfl
@[simp] theorem State.resetBlocks_slips (s : State) : s.resetBlocks.slips = SlipUnit.afterReset := rfl
@[simp] theorem State.resetBlocks_link (s : State) : s.resetBlocks.link = s.link.afterReset s.config.linkRate := rfl
@[simp] theorem State.resetBlocks_clock (s : State) : s.resetBlocks.clock = { s.clock with request := none } := rfl
@[simp] theorem State.resetBlocks_tables (s : State) : s.resetBlocks.tables = s.tables.afterReset := rfl

/-! ### The Slip Unit (R163) -/

/-- Everything the port's test can do: nothing, begin the waiting byte, or pause a PRINTING port. -/
theorem SlipUnit.test_cases (u : SlipUnit) (rate : Nat) (paperOut ready : Bool) :
    u.test rate paperOut ready = u ∨
      (u.test rate paperOut ready = { u with
          line := .sending (u.buffer.getD u.position 0) rate true, port := if u.port = .paused then .printing else u.port }
        ∧ paperOut = false ∧ ready = true ∧ u.port.hasCurrent = true ∧ u.position < u.buffer.length) ∨
      (u.test rate paperOut ready = { u with port := if u.port = .printing then .paused else u.port }
        ∧ u.port.hasCurrent = true ∧ u.position < u.buffer.length) := by
  simp only [SlipUnit.test]
  split
  · next h =>
    simp only [Bool.and_eq_true, decide_eq_true_eq] at h
    split
    · next h2 =>
      simp only [Bool.and_eq_true, Bool.not_eq_true'] at h2
      exact .inr (.inl ⟨rfl, h2.1, h2.2, h.1.1, h.2⟩)
    · exact .inr (.inr ⟨rfl, h.1.1, h.2⟩)
  · exact .inl rfl

/-! ### The Desk Clock (R75, R76) -/

/-- Everything an edge can do to the time. -/
theorem Clock.advance_cases (c : Clock) :
    (c.advance = c ∧ c.halted = true) ∨ (c.advance = { c with second := c.second + 1 } ∧ c.second < 59) ∨
      (c.advance = { c with second := 0, minute := c.minute + 1 } ∧ c.minute < 1439) ∨
      (c.advance = { c with second := 0, minute := 0, day := c.day + 1 } ∧ c.day < lastDay) ∨
      (c.advance = { c with halted := true, isSet := false } ∧ lastDay ≤ c.day) := by
  simp only [Clock.advance]
  split
  · next h => exact .inl ⟨rfl, h⟩
  · split
    · next h => exact .inr (.inl ⟨rfl, h⟩)
    · split
      · next h => exact .inr (.inr (.inl ⟨rfl, h⟩))
      · split
        · next h => exact .inr (.inr (.inr (.inl ⟨rfl, h⟩)))
        · next h => exact .inr (.inr (.inr (.inr ⟨rfl, Nat.not_lt.mp h⟩)))

/-! ### The link (R172, R173) -/

/-- Everything a new rate can do to the receiver. -/
theorem Link.applyRate_cases (l : Link) (rate : Nat) :
    l.applyRate rate = { l with rateReady := false } ∨ l.applyRate rate = { l with rate := rate, rateReady := false } ∨
      l.applyRate rate = ({ l with rate := rate, rateReady := false } : Link).discard .waitMark := by
  simp only [Link.applyRate]
  split
  · exact .inl rfl
  · split
    · exact .inr (.inr rfl)
    · exact .inr (.inl rfl)

/-- What a character can bring, by what the receiver was doing. -/
theorem State.linkCharacter_cases (s : State) (b : Byte) (stop : Bool) :
    s.linkCharacter b stop = s ∨ s.linkCharacter b stop = { s with link := s.link.discard .waitMark } ∨
      (s.linkCharacter b stop = { s with link := (s.link.receive b).1 } ∧ (s.link.receive b).2 = .nothing) ∨
      (s.linkCharacter b stop = State.countLinkError { s with link := (s.link.receive b).1 } ∧ (s.link.receive b).2 = .error) ∨
      ∃ type payload, (s.link.receive b).2 = .frame type payload ∧
        s.linkCharacter b stop = State.takeFrame { s with link := (s.link.receive b).1 } type (parseRequest type payload) := by
  simp only [State.linkCharacter]
  split
  · exact .inl rfl
  · split
    · exact .inr (.inl rfl)
    · split
      · next h => exact .inr (.inr (.inl ⟨rfl, h⟩))
      · next h => exact .inr (.inr (.inr (.inl ⟨rfl, h⟩)))
      · next type payload h => exact .inr (.inr (.inr (.inr ⟨type, payload, h, rfl⟩)))

end Sys2Proof.Machine
end

