-- ==== Sys2Proof/Laws/Store.lean ====
section
/-! SUPPORT. The journal's slot store and the Local Loan List: reading after writing, and the canonical forms that every operation keeps. -/

namespace Sys2Proof.Machine

open Config

/-! ### Keys in ascending order -/

theorem strictlyAscending_iff (l : List Nat) : strictlyAscending l = true ↔ l.Pairwise (· < ·) := by
  induction l with
  | nil => simp [strictlyAscending]
  | cons a rest ih =>
    cases rest with
    | nil => simp [strictlyAscending]
    | cons b rest =>
      simp only [strictlyAscending, Bool.and_eq_true, decide_eq_true_eq, ih]
      constructor
      · rintro ⟨hab, h⟩
        refine List.pairwise_cons.mpr ⟨fun x hx => ?_, h⟩
        rcases List.mem_cons.mp hx with rfl | hx
        · exact hab
        · exact Nat.lt_trans hab (List.rel_of_pairwise_cons h hx)
      · intro h
        exact ⟨List.rel_of_pairwise_cons h (List.mem_cons_self ..), (List.pairwise_cons.mp h).2⟩

/-- The slots' canonical form, as a proposition. -/
theorem slotsWf_iff (l : List (Nat × Slot)) :
    slotsWf l = true ↔ (l.map (·.1)).Pairwise (· < ·) ∧ ∀ e ∈ l, e.1 < slotCount := by
  simp [slotsWf, strictlyAscending_iff]

/-! ### Reading after writing -/

theorem findSlot_cons (e : Nat × Slot) (l : List (Nat × Slot)) (n : Nat) :
    findSlot (e :: l) n = if e.1 = n then some e.2 else findSlot l n := by
  by_cases h : e.1 = n <;> simp [findSlot, h]

@[simp] theorem findSlot_nil (n : Nat) : findSlot [] n = none := rfl

@[simp] theorem findSlot_putSlot_self (n : Nat) (v : Slot) (l : List (Nat × Slot)) : findSlot (putSlot n v l) n = some v := by
  induction l with
  | nil => simp [putSlot, findSlot_cons]
  | cons e rest ih =>
    simp only [putSlot]
    split
    · simp [findSlot_cons]
    · split
      · simp [findSlot_cons]
      · next h => rw [findSlot_cons, if_neg (fun he => h he.symm), ih]

theorem findSlot_putSlot_of_ne {n m : Nat} (v : Slot) (l : List (Nat × Slot)) (h : m ≠ n) :
    findSlot (putSlot n v l) m = findSlot l m := by
  induction l with
  | nil => simp [putSlot, findSlot_cons, Ne.symm h]
  | cons e rest ih =>
    simp only [putSlot]
    split
    · simp [findSlot_cons, Ne.symm h]
    · split
      · next he => rw [findSlot_cons, findSlot_cons, if_neg (Ne.symm h), if_neg (by rw [← he]; exact Ne.symm h)]
      · rw [findSlot_cons, findSlot_cons, ih]

/-- A filter by slot number keeps what it keeps and blanks the rest. -/
theorem findSlot_filter (p : Nat → Bool) (l : List (Nat × Slot)) (n : Nat) :
    findSlot (l.filter fun e => p e.1) n = if p n then findSlot l n else none := by
  induction l with
  | nil => simp
  | cons e rest ih =>
    by_cases hp : p e.1
    · rw [List.filter_cons_of_pos (by exact hp), findSlot_cons, findSlot_cons, ih]
      split
      · next he => subst he; simp [hp]
      · rfl
    · rw [List.filter_cons_of_neg (by exact hp), ih, findSlot_cons]
      split
      · next hn =>
        rw [if_neg]
        rintro rfl
        exact hp hn
      · rfl

theorem findSlot_blankPage_inside {p n : Nat} (l : List (Nat × Slot)) (h : n / pageSlots = p) : findSlot (blankPage p l) n = none := by
  have := findSlot_filter (fun k => k / pageSlots != p) l n
  simpa [blankPage, h] using this

theorem findSlot_blankPage_outside {p n : Nat} (l : List (Nat × Slot)) (h : n / pageSlots ≠ p) :
    findSlot (blankPage p l) n = findSlot l n := by
  have := findSlot_filter (fun k => k / pageSlots != p) l n
  simpa [blankPage, h] using this

/-- In the canonical form a listed slot is the one found. -/
theorem findSlot_of_mem {l : List (Nat × Slot)} (h : slotsWf l = true) {e : Nat × Slot} (he : e ∈ l) : findSlot l e.1 = some e.2 := by
  obtain ⟨hp, -⟩ := (slotsWf_iff l).mp h
  clear h
  induction l with
  | nil => cases he
  | cons a rest ih =>
    rw [findSlot_cons]
    rcases List.mem_cons.mp he with rfl | he'
    · simp
    · have hlt : a.1 < e.1 := List.rel_of_pairwise_cons (by simpa using hp) (List.mem_map_of_mem he')
      rw [if_neg (Nat.ne_of_lt hlt)]
      exact ih he' (List.pairwise_cons.mp (by simpa using hp)).2

theorem mem_of_findSlot {l : List (Nat × Slot)} {n : Nat} {v : Slot} (h : findSlot l n = some v) : (n, v) ∈ l := by
  induction l with
  | nil => simp at h
  | cons e rest ih =>
    rw [findSlot_cons] at h
    split at h
    · next he => cases h; subst he; exact List.mem_cons_self ..
    · exact List.mem_cons_of_mem _ (ih h)

/-! ### The canonical form of the slots -/

theorem slotsWf_nil : slotsWf [] = true := rfl

theorem slotsWf_filter (p : Nat × Slot → Bool) {l : List (Nat × Slot)} (h : slotsWf l = true) : slotsWf (l.filter p) = true := by
  obtain ⟨hp, hb⟩ := (slotsWf_iff l).mp h
  refine (slotsWf_iff _).mpr ⟨?_, fun e he => hb e (List.mem_filter.mp he).1⟩
  exact List.Pairwise.sublist (List.Sublist.map _ List.filter_sublist) hp

theorem slotsWf_blankPage (p : Nat) {l : List (Nat × Slot)} (h : slotsWf l = true) : slotsWf (blankPage p l) = true :=
  slotsWf_filter _ h

theorem mem_putSlot {n : Nat} {v : Slot} {l : List (Nat × Slot)} {e : Nat × Slot} (h : e ∈ putSlot n v l) : e = (n, v) ∨ e ∈ l := by
  induction l with
  | nil => simpa [putSlot] using h
  | cons a rest ih =>
    simp only [putSlot] at h
    split at h
    · simpa using h
    · split at h
      · rcases List.mem_cons.mp h with h | h
        · exact .inl h
        · exact .inr (List.mem_cons_of_mem _ h)
      · rcases List.mem_cons.mp h with h | h
        · exact .inr (h ▸ List.mem_cons_self ..)
        · exact (ih h).imp id (List.mem_cons_of_mem _)

theorem slotsWf_putSlot {n : Nat} (hn : n < slotCount) (v : Slot) {l : List (Nat × Slot)} (h : slotsWf l = true) :
    slotsWf (putSlot n v l) = true := by
  obtain ⟨hp, hb⟩ := (slotsWf_iff l).mp h
  refine (slotsWf_iff _).mpr ⟨?_, fun e he => ?_⟩
  · clear h hb
    induction l with
    | nil => simp [putSlot]
    | cons a rest ih =>
      simp only [List.map_cons, List.pairwise_cons] at hp
      simp only [putSlot]
      split
      · next hlt =>
        simp only [List.map_cons, List.pairwise_cons]
        refine ⟨fun x hx => ?_, hp⟩
        rcases List.mem_cons.mp hx with rfl | hx
        · exact hlt
        · exact Nat.lt_trans hlt (hp.1 x hx)
      · split
        · next he => subst he; simpa using hp
        · simp only [List.map_cons, List.pairwise_cons]
          refine ⟨fun x hx => ?_, ih hp.2⟩
          obtain ⟨e, he, rfl⟩ := List.mem_map.mp hx
          rcases mem_putSlot he with rfl | he
          · show a.1 < n; omega
          · exact hp.1 _ (List.mem_map_of_mem he)
  · rcases mem_putSlot he with rfl | he
    · exact hn
    · exact hb e he

theorem headSlot_lt (j : Journal) : j.headSlot < slotCount := Nat.mod_lt _ (by decide)

theorem slotsWf_reset : slotsWf State.reset.journal.slots = true := rfl

/-! ### The journal's operations -/

section Journal
variable (j : Journal)

@[simp] theorem Journal.setPage_slots (p : Nat) (st : PageState) : (j.setPage p st).slots = j.slots := rfl
@[simp] theorem Journal.setPage_released (p : Nat) (st : PageState) : (j.setPage p st).released = j.released := rfl
@[simp] theorem Journal.setPage_eraseMarker (p : Nat) (st : PageState) : (j.setPage p st).eraseMarker = j.eraseMarker := rfl
@[simp] theorem Journal.setPage_eraseQueue (p : Nat) (st : PageState) : (j.setPage p st).eraseQueue = j.eraseQueue := rfl
@[simp] theorem Journal.setPage_lastComplete (p : Nat) (st : PageState) : (j.setPage p st).lastComplete = j.lastComplete := rfl
@[simp] theorem Journal.setPage_requests (p : Nat) (st : PageState) : (j.setPage p st).requests = j.requests := rfl
@[simp] theorem Journal.setPage_writer (p : Nat) (st : PageState) : (j.setPage p st).writer = j.writer := rfl

/-- A page's test leaves it, or releases it and queues it for erase (R139). -/
theorem Journal.releasePage_cases (p : Nat) :
    j.releasePage p = j ∨ j.releasePage p = { j.setPage p .released with eraseQueue := j.eraseQueue ++ [p] } := by
  simp only [Journal.releasePage]
  split
  · exact .inr rfl
  · exact .inl rfl

@[simp] theorem Journal.releasePage_slots (p : Nat) : (j.releasePage p).slots = j.slots := by
  rcases j.releasePage_cases p with h | h <;> rw [h]; rfl
@[simp] theorem Journal.releasePage_released (p : Nat) : (j.releasePage p).released = j.released := by
  rcases j.releasePage_cases p with h | h <;> rw [h]; rfl
@[simp] theorem Journal.releasePage_eraseMarker (p : Nat) : (j.releasePage p).eraseMarker = j.eraseMarker := by
  rcases j.releasePage_cases p with h | h <;> rw [h]; rfl
@[simp] theorem Journal.releasePage_lastComplete (p : Nat) : (j.releasePage p).lastComplete = j.lastComplete := by
  rcases j.releasePage_cases p with h | h <;> rw [h]; rfl
@[simp] theorem Journal.releasePage_requests (p : Nat) : (j.releasePage p).requests = j.requests := by
  rcases j.releasePage_cases p with h | h <;> rw [h]; rfl
@[simp] theorem Journal.releasePage_writer (p : Nat) : (j.releasePage p).writer = j.writer := by
  rcases j.releasePage_cases p with h | h <;> rw [h]; rfl

/-- What every page's test keeps, the test of several keeps. -/
theorem Journal.releaseFold {α : Type} (f : Journal → α) (h : ∀ k p, f (Journal.releasePage k p) = f k) (ps : List Nat) :
    ∀ k : Journal, f (ps.foldl Journal.releasePage k) = f k := by
  induction ps with
  | nil => intro k; rfl
  | cons p rest ih => intro k; exact (ih _).trans (h k p)

@[simp] theorem Journal.releasePages_slots : j.releasePages.slots = j.slots := Journal.releaseFold (·.slots) (by simp) _ _
@[simp] theorem Journal.releasePages_released : j.releasePages.released = j.released := Journal.releaseFold (·.released) (by simp) _ _
@[simp] theorem Journal.releasePages_eraseMarker : j.releasePages.eraseMarker = j.eraseMarker :=
  Journal.releaseFold (·.eraseMarker) (by simp) _ _
@[simp] theorem Journal.releasePages_lastComplete : j.releasePages.lastComplete = j.lastComplete :=
  Journal.releaseFold (·.lastComplete) (by simp) _ _
@[simp] theorem Journal.releasePages_requests : j.releasePages.requests = j.requests := Journal.releaseFold (·.requests) (by simp) _ _
@[simp] theorem Journal.releasePages_writer : j.releasePages.writer = j.writer := Journal.releaseFold (·.writer) (by simp) _ _

/-- A record written: its slot, the last complete sequence, and page states (R130, R136). -/
theorem Journal.complete_slots (r : JournalRecord) : (j.complete r).slots = putSlot j.headSlot (.record r) j.slots := by
  simp only [Journal.complete]; repeat' split
  all_goals simp
theorem Journal.complete_lastComplete (r : JournalRecord) : (j.complete r).lastComplete = r.sequence := by
  simp only [Journal.complete]; repeat' split
  all_goals simp
@[simp] theorem Journal.complete_released (r : JournalRecord) : (j.complete r).released = j.released := by
  simp only [Journal.complete]; repeat' split
  all_goals simp
@[simp] theorem Journal.complete_eraseMarker (r : JournalRecord) : (j.complete r).eraseMarker = j.eraseMarker := by
  simp only [Journal.complete]; repeat' split
  all_goals simp
@[simp] theorem Journal.complete_requests (r : JournalRecord) : (j.complete r).requests = j.requests := by
  simp only [Journal.complete]; repeat' split
  all_goals simp

/-- The slots after a power loss: as they were, or with the head slot torn or written (R143). -/
theorem Journal.cut_slots (left : SlotCut) :
    (j.cut left).slots = j.slots ∨ ∃ v, (j.cut left).slots = putSlot j.headSlot v j.slots := by
  simp only [Journal.cut]
  split
  · cases left
    · exact .inl rfl
    · exact .inr ⟨_, rfl⟩
    · exact .inr ⟨_, rfl⟩
  · exact .inl rfl

/-- Every operation on the store keeps its canonical form. -/
theorem Journal.slotsWf_complete (h : slotsWf j.slots = true) (r : JournalRecord) : slotsWf (j.complete r).slots = true := by
  rw [Journal.complete_slots]; exact slotsWf_putSlot (headSlot_lt j) _ h
theorem Journal.slotsWf_cut (h : slotsWf j.slots = true) (left : SlotCut) : slotsWf (j.cut left).slots = true := by
  rcases j.cut_slots left with h' | ⟨v, h'⟩ <;> rw [h']
  · exact h
  · exact slotsWf_putSlot (headSlot_lt j) _ h
theorem Journal.slotsWf_endErase (h : slotsWf j.slots = true) : slotsWf j.endErase.slots = true := by
  simp only [Journal.endErase]; split
  · exact slotsWf_blankPage _ h
  · exact h
theorem Journal.slotsWf_startErase (h : slotsWf j.slots = true) : slotsWf j.startErase.slots = true := by
  simp only [Journal.startErase]; split
  · exact h
  · exact h
theorem Journal.slotsWf_recover (h : slotsWf j.slots = true) : slotsWf j.recover.slots = true := by
  simp only [Journal.recover]; split
  · exact slotsWf_filter _ (slotsWf_blankPage _ h)
  · exact slotsWf_filter _ h

end Journal

/-! ### The Local Loan List -/

theorem mem_upsert {α : Type} {key : α → Nat} {a b : α} {l : List α} (h : b ∈ upsert key a l) : b = a ∨ b ∈ l := by
  induction l with
  | nil => simpa [upsert] using h
  | cons c rest ih =>
    simp only [upsert] at h
    split at h
    · simpa using h
    · split at h
      · rcases List.mem_cons.mp h with h | h
        · exact .inl h
        · exact .inr (List.mem_cons_of_mem _ h)
      · rcases List.mem_cons.mp h with h | h
        · exact .inr (h ▸ List.mem_cons_self ..)
        · exact (ih h).imp id (List.mem_cons_of_mem _)

/-- Writing an entry at its place keeps the key order (R64). -/
theorem ascending_upsert {α : Type} (key : α → Nat) (a : α) {l : List α} (h : (l.map key).Pairwise (· < ·)) :
    ((upsert key a l).map key).Pairwise (· < ·) := by
  induction l with
  | nil => simp [upsert]
  | cons c rest ih =>
    simp only [List.map_cons, List.pairwise_cons] at h
    simp only [upsert]
    split
    · next hlt =>
      simp only [List.map_cons, List.pairwise_cons]
      refine ⟨fun x hx => ?_, h⟩
      rcases List.mem_cons.mp hx with rfl | hx
      · exact hlt
      · exact Nat.lt_trans hlt (h.1 x hx)
    · split
      · next he => simp only [List.map_cons, List.pairwise_cons, he]; exact h
      · simp only [List.map_cons, List.pairwise_cons]
        refine ⟨fun x hx => ?_, ih h.2⟩
        obtain ⟨e, he, rfl⟩ := List.mem_map.mp hx
        rcases mem_upsert he with rfl | he
        · omega
        · exact h.1 _ (List.mem_map_of_mem he)

theorem ascending_removeKey {α : Type} (key : α → Nat) (k : Nat) {l : List α} (h : (l.map key).Pairwise (· < ·)) :
    ((removeKey key k l).map key).Pairwise (· < ·) :=
  List.Pairwise.sublist (List.Sublist.map _ List.filter_sublist) h

end Sys2Proof.Machine
end

