-- ==== Sys2Proof/Tests/Slice0.lean ====
section
/-! SUPPORT. Tests: what WellFormed refuses, the worked examples of spec/ (each comment names its source), and for every obligation with hypotheses a theorem `witness_<its name>` that shows states and operands that meet them, clause by clause. -/

namespace Sys2Proof.Tests

open Sys2Proof.Machine Sys2Proof.Config

/-! ### Fixtures -/

/-- The state a command leaves; no command stops. -/
def after (c : Instr) (s : State) : State :=
  match exec c s with
  | .next t => t
  | .fault _ | .refused _ => State.reset

/-- A factory part whose start-up has ended. -/
def desk : State := { State.reset with phase := .started }

/-- A part without supply that holds the factory values. -/
def unpowered : State := { State.reset with life := .off, heldCause := none }

/-- Station 0's channel and session changed. -/
def onCh (s : State) (f : Channel → Channel) : State := { s with channels := s.channels.set 0 (f s.channels[0]) }
def onSes (s : State) (f : Session → Session) : State := { s with sessions := s.sessions.set 0 (f s.sessions[0]) }

/-- Station 0's channel and session. -/
def ch0 (s : State) : Channel := s.channels[(0 : Station)]
def ses0 (s : State) : Session := s.sessions[(0 : Station)]

/-- A wand character without marks. -/
def plain (b : Byte) : WandChar := { value := b, parityError := false, framingError := false, isBreak := false, lossNote := false }

/-- Some characters. -/
def text (cs : List Char) : List Byte := ascii cs

/-- The digits of a number, as its label has them. -/
def label (n : Nat) : List Byte := decimal n

/-- The table of "Worked classification" (01_scan_path). -/
def formats : List SymbolFormat :=
  [{ lead := text ['S'], minLength := 9, maxLength := 15, kind := .staff, check := .w31, strip := 1 },
   { lead := text ['C', 'M'], minLength := 4, maxLength := 6, kind := .command, check := .none, strip := 2 },
   { lead := text ['7'], minLength := 11, maxLength := 14, kind := .borrower, check := .w21, strip := 0 },
   { lead := [], minLength := 8, maxLength := 8, kind := .item, check := .w31, strip := 0 },
   { lead := text ['X'], minLength := 4, maxLength := 32, kind := .ignore, check := .none, strip := 0 }]

/-- The calendar of "Worked cases" (Desk Clock and Due-Date Arithmetic). -/
def spring : CalendarHeader :=
  { mask := 0x40, hours := [(540, 1140), (540, 1140), (540, 1140), (540, 1140), (540, 1140), (600, 1020), (600, 1020)], horizon := 9312,
    shelfDays := 5 }
def springCalendar : Calendar := { header := spring, closedDays := [9239, 9242, 9252] }

/-- Borrowers of the worked cases: 79927398713 as it is, 61200000004 with the LOST flag. -/
def reader : Borrower :=
  { card := 79927398713, category := 2, flags := { adminBlock := false, overdueBlock := false, lost := false }, snapshot := 0,
    limitAdjust := 0, fines := 0, thresholdAdjust := 0, expiry := 0 }
def lostReader : Borrower := { reader with card := 61200000004, flags := { adminBlock := false, overdueBlock := false, lost := true } }

/-- The item of "Worked case: a hold from return to loan". -/
def heldItem : ItemException :=
  { item := 40000012, state := .holdWaiting, classOverride := none, holdCard := 79927398713, holdExpiry := none }

def tables : TableSet :=
  { borrowers := [lostReader, reader], exceptions := [heldItem], ranges := [],
    categories := List.replicate 16 { loanLimit := 8, threshold := 1000, capDay := 0 },
    policy := List.replicate 256 { kind := .days, period := 21, renewals := 2 }, calendarHeader := some spring,
    closedDays := [9239, 9242, 9252], staff := [{ number := 912345671, level := 1 }, { number := 920000008, level := 2 }],
    symbols := formats }

/-- A desk with a valid live set, on day 9231 at minute 680, at basis 7001 with last complete sequence 7309, as in that worked case. -/
def library : State :=
  { desk with
    tables := { TableStore.factory with bankA := { tables := tables, crcs := Vector.replicate 8 0xFFFF }, valid := true, basis := 7001 },
    journal := { Journal.factory with lastComplete := 7309 },
    clock := { Clock.afterPowerOn with day := 9231, minute := 680, isSet := true } }

/-- A scan of station 0. -/
def scan (kind : ScanKind) (ident : Nat) : ScanRecord := { station := 0, kind := kind, ident := ident, day := 9231, minute := 680 }

/-- A decision of station 0, its session OPEN for the reader, or IDLE. -/
def decision (task : Task) (kind : ScanKind) (ident : Nat) (open_ : Bool) : Decision :=
  { station := 0, scan := scan kind ident, task := task, sessionState := if open_ then .open_ else .idle,
    card := if open_ then reader.card else 0, guest := false, lastRefusal := none,
    requestClass := if open_ then .loanClass else .returnClass }

/-- The library with an OPEN session of the reader at station 0. -/
def openDesk : State := onSes library fun x => { x with state := .open_, card := reader.card, idleTimer := true }

/-- A decision in the engine. -/
def deciding (s : State) (d : Decision) : State := { s with engine := { s.engine with phase := .awaitingTurn, decision := some d } }

/-- A request at the head of the request order. -/
def asking (s : State) (r : Requester) : State := { s with journal := { s.journal with requests := [r] } }

/-- A record being written. -/
def writing (s : State) (r : JournalRecord) (owner : Requester) : State :=
  { s with journal := { s.journal with writer := .writing r owner } }

/-- A slip of station 0. -/
def loanSlip : Slip :=
  { station := 0, time := { day := 9231, minute := 615 }, card := reader.card,
    body := .loan [{ item := 12345670, dueDay := 9253, dueMinute := 1140, renewed := false },
                   { item := 20000005, dueDay := 9253, dueMinute := 1140, renewed := true }], copy := false }
def holdSlip : Slip :=
  { station := 0, time := { day := 9231, minute := 615 }, card := reader.card, body := .hold 40000012 9236, copy := false }

/-- The Slip Unit changed, the link changed, the clock changed. -/
def onSlips (s : State) (f : SlipUnit → SlipUnit) : State := { s with slips := f s.slips }
def onLink (s : State) (f : Link → Link) : State := { s with link := f s.link }
def onClock (s : State) (f : Clock → Clock) : State := { s with clock := f s.clock }
def onJournal (s : State) (f : Journal → Journal) : State := { s with journal := f s.journal }
def onTables (s : State) (f : TableStore → TableStore) : State := { s with tables := f s.tables }

/-- A full queue of slips. -/
def fullSlips (s : State) : State := onSlips s fun u => { u with queue := List.replicate 4 loanSlip, port := .held }

/-! ### Well-formedness: an ill-formed term for each check -/

theorem test_wf_configure_short : (Instr.configure (List.replicate 161 0)).wellFormed = false := by decide +kernel
theorem test_wf_configure : (Instr.configure (List.replicate 162 0)).wellFormed = true := by decide +kernel
theorem test_wf_load_long : (Instr.loadEntries 0 1 (List.replicate 239 0)).wellFormed = false := by decide +kernel
theorem test_wf_borrower_insert_short : (Instr.patchBorrowerInsert 1 (List.replicate 15 0)).wellFormed = false := by decide +kernel
theorem test_wf_item_insert_long : (Instr.patchItemInsert 1 (List.replicate 17 0)).wellFormed = false := by decide +kernel
theorem test_wf_unknown_known_type : (Instr.unknownRequest 0x01 []).wellFormed = false := by decide +kernel
theorem test_wf_unknown_response_type : (Instr.unknownRequest 0x80 []).wellFormed = false := by decide +kernel
theorem test_wf_unknown_long : (Instr.unknownRequest 0x18 (List.replicate 241 0)).wellFormed = false := by decide +kernel
theorem test_wf_unknown : (Instr.unknownRequest 0x18 (List.replicate 240 0)).wellFormed = true := by decide +kernel

/-- The table gives no row any bits, so no word spells a command and `withFetchWord` leaves the state. -/
theorem test_no_word_spells (nbits w : Nat) : decodeTableWord nbits w = none ∧ State.reset.withFetchWord nbits w = State.reset :=
  ⟨rfl, rfl⟩

/-! ### Worked examples -/

/-- "Worked check cases": 12345670 and 912345671 under W31, 79927398713 under W21. -/
theorem test_worked_checks :
    checkPasses .w31 [1, 2, 3, 4, 5, 6, 7, 0] = true ∧ checkPasses .w31 [9, 1, 2, 3, 4, 5, 6, 7, 1] = true
      ∧ checkPasses .w21 [7, 9, 9, 2, 7, 3, 9, 8, 7, 1, 3] = true ∧ checkPasses .w21 [7, 9, 9, 2, 7, 3, 9, 8, 7, 1, 0] = false
      ∧ checkPasses .w31 [1, 2, 3, 4, 5, 6, 7, 8] = false := by decide

/-- "Worked classification", every row. -/
theorem test_worked_classification :
    classify formats (text ['C', 'M', '0', '5']) = .scan .command 5
      ∧ classify formats (label 12345670) = .scan .item 12345670 ∧ classify formats (label 12345678) = .scan .badCheck 12345678
      ∧ classify formats (text ['S'] ++ label 912345671) = .scan .staff 912345671
      ∧ classify formats (label 79927398713) = .scan .borrower 79927398713
      ∧ classify formats (text ['X', 'R', '-', '1']) = .dropped ∧ classify formats (text ['A', 'B', 'C']) = .scan .unreadable 0
      ∧ classify formats (label 79927398710) = .scan .badCheck 79927398710 := by decide +kernel

/-- "Worked case: a congested channel", the carriage return that finds the holding stage used: a loss, its mark and its count. -/
theorem test_overrun :
    let full := onCh desk fun c => { c with receiver := .receiving, fifo := List.replicate 16 (plain 0x31), holding := some (plain 0x30), errors := 3 }
    let t := ch0 (after (.wandCharacterComplete 0 0x0D false true) full)
    t.holding = some { plain 0x0D with lossNote := true } ∧ t.errors = 4 ∧ t.overrun = true ∧ t.fifo.length = 16 := by decide +kernel

/-- The same case: the noted carriage return ends a damaged symbol, discarded with a count. -/
theorem test_noted_terminator :
    let s := onCh library fun c =>
      { c with assembler := .collecting, buffer := label 1234567, fifo := [{ plain 0x0D with lossNote := true }], errors := 4 }
    let t := ch0 (after (.assemblerStep 0) s)
    t.queue = [] ∧ t.errors = 5 ∧ t.assembler = .empty ∧ t.buffer = [] := by decide +kernel

/-- A terminator on a whole label makes the Scan Record (R11, R18). -/
theorem test_scan_record :
    (ch0 (after (.assemblerStep 0) (onCh library fun c =>
        { c with assembler := .collecting, buffer := label 12345670, fifo := [plain 0x0D] }))).queue
      = [scan .item 12345670] := by decide +kernel

/-- "Worked figures": limits and thresholds. -/
theorem test_worked_figures :
    let c := fun l t => ({ loanLimit := l, threshold := t, capDay := 0 } : Category)
    let b := fun l t => { reader with limitAdjust := l, thresholdAdjust := t }
    effectiveLimit (c 8 0) (b (-2) 0) = 6 ∧ effectiveLimit (c 10 0) (b (-16) 0) = 0 ∧ effectiveLimit (c 99 0) (b 15 0) = 99
      ∧ effectiveThreshold (c 0 1000) (b 0 (-32768)) = 0 ∧ effectiveThreshold (c 0 60000) (b 0 10000) = 65535 := by decide

/-- "A 21-day loan" and "The same loan clamped to an expiry". -/
theorem test_worked_due_days :
    let free := springCalendar.dayLoan 9231 21 0 0
    let clamped := springCalendar.dayLoan 9231 21 9250 0
    free = { day := 9253, minute := 1140, flags := {} } ∧ clamped = { day := 9250, minute := 1140, flags := { clamped := true } } := by
  decide +kernel

/-- "Worked cases": day 9231 is a Thursday; the dates of days 9132, 9231 and 9253. -/
theorem test_dates :
    weekday 9231 = 3 ∧ civilDate 9132 = (2025, 1, 1) ∧ civilDate 9231 = (2025, 4, 10) ∧ civilDate 9253 = (2025, 5, 2)
      ∧ minuteText 615 = text ['1', '0', ':', '1', '5'] := by decide +kernel

/-- "Worked rendering": the buffer holds 185 bytes, and its second line. -/
theorem test_worked_rendering :
    let c := { ConfigRecord.factory with
      title := text ['C', 'E', 'N', 'T', 'R', 'A', 'L', ' ', 'L', 'E', 'N', 'D', 'I', 'N', 'G', ' ', 'D', 'E', 'S', 'K'],
      footer1 := text ['R', 'E', 'T', 'U', 'R', 'N', ' ', 'B', 'Y', ' ', 'T', 'H', 'E', ' ', 'D', 'A', 'T', 'E', ' ', 'S', 'H', 'O', 'W', 'N'] }
    let bytes := render c loanSlip
    bytes.length = 185
      ∧ (bytes.drop 22).take 22
          = text ['2', '0', '2', '5', '-', '0', '4', '-', '1', '0', ' ', '1', '0', ':', '1', '5', ' ', ' ', 'S', 'T', ' ', '0']
      ∧ bytes.drop 180 = [0x0A, 0x0A, 0x0A, 0x1C, 0x2E] := by decide +kernel

/-- "Worked case: a hold from return to loan", event 1: the RETURN record 7310 and what its completion leaves. -/
theorem test_worked_return :
    let out : LoanEntry :=
      { item := 40000012, card := 61200000004, sequence := 7120, dueDay := 9245, dueMinute := 1140, renewals := 0, override := false,
        transferred := false }
    let d := decision .returnItem .item 40000012 false
    let s := asking (deciding { library with loans := [out] } d) .engine
    let t := after .recordWriteCompletion (after .journalTurn s)
    t.journal.lastComplete = 7310 ∧ t.loans = []
      ∧ t.tables.liveTables.exceptions = [{ heldItem with state := .holdOnShelf, holdExpiry := some 9236 }]
      ∧ (t.journal.record? 7310).map (fun r => (r.card, r.dueDay, r.dueMinute, r.flags, r.shelfDay))
          = some (61200000004, 9245, 1140, { holdTrapped := true }, 9236)
      ∧ (ch0 t).pattern = some { outcome := .holdTrapped, interval := 0, lit := true } ∧ t.slips.queue.map (·.body) = [.hold 40000012 9236] := by
  decide +kernel

/-- The same case, event 3: the LOAN record, HOLD_FILLED, and what it leaves. -/
theorem test_worked_hold_loan :
    let shelf := { heldItem with state := .holdOnShelf, holdExpiry := some 9236 }
    let tablesNow := { tables with exceptions := [shelf] }
    let s := onTables openDesk fun t => { t with bankA := { t.bankA with tables := tablesNow } }
    let v := s.evaluate (decision .loanItem .item 40000012 true) true
    v.kind = .loan ∧ v.granted = some { item := 40000012, dueDay := 9253, dueMinute := 1140, renewed := false }
      ∧ v.record.map (fun r => (r.kind, r.flags, r.aux0, r.aux1)) = some (.loan, { holdFilled := true }, 0, 0) := by decide +kernel

/-- "Worked case: a transfer and a limit override", steps 1 to 3: ON_LOAN, an insufficient level, and the transfer. -/
theorem test_worked_transfer :
    let other : LoanEntry :=
      { item := 30000001, card := 61200000004, sequence := 7655, dueDay := 9238, dueMinute := 1140, renewals := 1, override := false,
        transferred := false }
    let s := { openDesk with loans := [other] }
    let refused : LastRefusal := { item := 30000001, reason := .onLoan, overridden := [] }
    let staff := fun n => { decision .staffCard .staff n true with lastRefusal := some refused }
    let low := s.evaluate (staff 912345671) true
    let high := s.evaluate (staff 920000008) true
    (s.evaluate (decision .loanItem .item 30000001 true) true).lastRefusal = .set refused
      ∧ low.kind = .refused ∧ low.record = none ∧ low.window = some { index := 0, level := 1 } ∧ low.lastRefusal = .keep
      ∧ high.kind = .loan ∧ high.lastRefusal = .clear
      ∧ high.record.map (fun r => (r.flags, r.aux0, r.aux1, r.dueDay)) = some ({ override := true, transferred := true }, 1, 0, 9253) := by
  decide +kernel

/-- "Worked load: a Staff table with an error": the key that is not greater, with the entries before it written. -/
theorem test_worked_load :
    let begun := after (.beginTable 6 3) desk
    let e := fun n l => (Entry.staff { number := n, level := l }).bytes
    let two := after (.loadEntries 6 2 (e 912345671 1 ++ e 930000005 2)) begun
    let bad := after (.loadEntries 6 1 (e 920000008 2)) two
    (begun.tables.loading .staff).map (·.pointer) = some 0 ∧ (two.tables.loading .staff).map (·.pointer) = some 2
      ∧ bad.tables.standbyOf .staff = { state := .failed, copyPoint := none, failure := some .order }
      ∧ bad.link.tx.getLast? = some (.response { type := 0x89, payload := [6, 0, 2], tag := .plain }) := by decide +kernel

/-- "Worked sequence: a link coming up": steps 1, 2, 4 and 7. -/
theorem test_worked_link :
    let s := onLink { State.reset with phase := .replay } fun l => { l with access := 0, code1 := 0x0000A1C4, code2 := 0x5F03229E }
    let answer := fun (t : State) => t.link.tx.getLast?
    let up := after (.access 0x0000A1C4) { s with phase := .started }
    answer (after (.journalRead 0) s) = some (.response { type := 0x91, payload := [11], tag := .plain })
      ∧ answer (after (.journalRead 0) { s with phase := .started }) = some (.response { type := 0x91, payload := [2], tag := .plain })
      ∧ answer up = some (.response { type := 0x82, payload := [0, 1], tag := .plain }) ∧ up.link.access = 1
      ∧ answer (after (.commitSet 0) up) = some (.response { type := 0x8D, payload := [2], tag := .plain }) := by decide +kernel

/-- "Worked sequence: a paper-out, a stop and an abort", steps 8 and 9: the slip being sent ends, and the port is HELD. -/
theorem test_worked_stop :
    let s := onSlips desk fun u =>
      { u with queue := [loanSlip, holdSlip], port := .printing, buffer := [0x2E], line := .sending 0x2E 4 true }
    let t := after .printerByteAccepted (after .printerControlStop s)
    t.slips.port = .held ∧ t.slips.queue = [holdSlip] ∧ t.slips.lastPrinted = some loanSlip := by decide +kernel

/-- A table with no entries has the CRC FFFFh (R185); the first byte 00h takes the register to E1F0h (hand calculation by R185's
generator). -/
theorem test_crc : crc16 [] = 0xFFFF ∧ crc16 [0] = 0xE1F0 := by decide

/-- The first start of a factory part (R146, R193): recovery, replay and the RESTART record, sequence 1 with cause POWER_ON. -/
theorem test_first_start :
    let t := after .recordWriteCompletion (after .journalTurn (after .replayEnd (after .recoveryComplete State.reset)))
    t.phase = .started ∧ t.journal.lastComplete = 1
      ∧ (t.journal.record? 1).map (fun r => (r.kind, r.station, r.day, r.aux0, r.aux2)) = some (.restart, 15, 65535, 0, 0) := by
  decide +kernel

/-- A step takes the front command and leaves the rest (log 2). -/
theorem test_step :
    (match step { desk with pending := [.leave, .restart] } with
      | .next t => (t.link.access, t.pending)
      | .fault _ | .refused _ => (9, []))
      = (0, [.restart]) := by decide +kernel

/-! ### Witnesses: states and operands that meet the hypotheses of each obligation -/

theorem witness_StepTakesFrontCommand :
    ({ desk with pending := [.leave, .restart] } : State).pending = .leave :: [.restart] ∧ State.reset.pending = [] := ⟨rfl, rfl⟩

theorem witness_ResetIsFirstPowerOn :
    unpowered.life = .off ∧ unpowered.pending = [] ∧ unpowered.pins = Levels.initial ∧ unpowered.ready = false ∧ unpowered.resetLine = false
      ∧ unpowered.tables = TableStore.factory ∧ unpowered.config = ConfigRecord.factory ∧ unpowered.journal.slots = []
      ∧ unpowered.journal.released = 0 ∧ unpowered.journal.eraseMarker = none ∧ unpowered.journal.tornMark = false
      ∧ unpowered.journal.erasedAgainMark = false ∧ unpowered.link.code1 = 0xFFFFFFFF ∧ unpowered.link.code2 = 0xFFFFFFFF :=
  ⟨rfl, rfl, rfl, rfl, rfl, rfl, rfl, rfl, rfl, rfl, rfl, rfl, rfl, rfl⟩

/-- A partial symbol, and a receiver in IDLE. -/
def partialSymbol : State := onCh desk fun c => { c with receiver := .idle, assembler := .collecting, buffer := [0x31] }

theorem witness_WandStartsAndFragments :
    (partialSymbol.running = true ∧ (ch0 partialSymbol).receiver = .idle) ∧ (desk.running = true ∧ (ch0 desk).receiver = .waitMark)
      ∧ ((ch0 partialSymbol).assembler ≠ .empty ∧ (ch0 partialSymbol).fifo = [] ∧ (ch0 partialSymbol).holding = none
          ∧ (ch0 partialSymbol).hold = false) := by decide +kernel

/-- A channel that receives, its FIFO filled to `n` and its holding stage as given. -/
def receiving (n : Nat) (h : Option WandChar) : State :=
  onCh desk fun c => { c with receiver := .receiving, fifo := List.replicate n (plain 0x31), holding := h }

theorem witness_WandCharacterStored :
    (∀ s ∈ [receiving 15 none, receiving 16 none, receiving 16 (some (plain 0x32))], s.running = true ∧ (ch0 s).receiver = .receiving)
      ∧ ((ch0 (receiving 15 none)).holding = none ∧ (ch0 (receiving 15 none)).fifo.length < 16)
      ∧ ((ch0 (receiving 16 none)).holding = none ∧ 16 ≤ (ch0 (receiving 16 none)).fifo.length)
      ∧ (ch0 (receiving 16 (some (plain 0x32)))).holding.isSome = true := by decide +kernel

/-- A channel whose assembler may take a character, three scans in its queue. -/
def assembling (s : State) (c : WandChar) (f : Channel → Channel) : State :=
  onCh s fun ch => f { ch with fifo := [c], queue := List.replicate 3 (scan .item 12345670) }

/-- A channel that collects some characters. -/
def collecting (sym : List Byte) (damaged : Bool) (ch : Channel) : Channel :=
  { ch with assembler := .collecting, buffer := sym, damage := damaged }

/-- What every clause of AssemblerTakesCharacter asks. -/
abbrev common (s : State) (c : WandChar) : Prop := s.running = true ∧ (ch0 s).fifo = c :: [] ∧ (ch0 s).queue.length < 4

theorem witness_AssemblerTakesCharacter :
    let cr := plain 0x0D
    let brk := { plain 0 with isBreak := true }
    let item := label 12345670
    let discarded := fun ch : Channel => { ch with assembler := .discarding, damage := true, buffer := List.replicate 32 0x31 }
    (common (assembling desk brk id) brk ∧ brk.isBreak = true)
      ∧ (common (assembling desk cr id) cr ∧ cr.isBreak = false ∧ cr.value = 0x0D ∧ cr.parityError = false ∧ cr.framingError = false
          ∧ (ch0 (assembling desk cr id)).assembler = .empty)
      ∧ (common (assembling desk cr discarded) cr ∧ (ch0 (assembling desk cr discarded)).assembler = .discarding)
      ∧ (common (assembling desk cr (collecting item true)) cr ∧ (ch0 (assembling desk cr (collecting item true))).damage = true)
      ∧ (common (assembling desk cr (collecting item false)) cr ∧ (ch0 (assembling desk cr (collecting item false))).assembler = .collecting
          ∧ (ch0 (assembling desk cr (collecting item false))).damage = false ∧ cr.lossNote = false ∧ desk.tables.valid = false)
      ∧ (common (assembling library cr (collecting item false)) cr ∧ (assembling library cr (collecting item false)).tables.valid = true
          ∧ classify library.tables.liveTables.symbols item = .scan .item 12345670)
      ∧ (common (assembling library cr (collecting (text ['X', 'R', '-', '1']) false)) cr
          ∧ classify library.tables.liveTables.symbols (text ['X', 'R', '-', '1']) = .dropped)
      ∧ (common (assembling desk { cr with lossNote := true } (collecting item false)) { cr with lossNote := true }) := by decide +kernel

theorem witness_AssemblerTakesCharacter_ordinary :
    let discarded := fun ch : Channel => { ch with assembler := .discarding, damage := true, buffer := List.replicate 32 0x31 }
    let fed := assembling desk (plain 0x0A) fun ch => { ch with afterTerminator := true }
    let first := assembling desk (plain 0x31) id
    let last := assembling desk (plain 0x31) (collecting (List.replicate 31 0x31) false)
    let spill := assembling desk (plain 0x31) (collecting (List.replicate 32 0x31) false)
    let thrown := assembling desk (plain 0x31) discarded
    (common fed (plain 0x0A) ∧ (ch0 fed).afterTerminator = true ∧ (plain 0x0A).isBreak = false ∧ (plain 0x0A).lossNote = false)
      ∧ (common first (plain 0x31) ∧ (ch0 first).afterTerminator = false ∧ (ch0 first).assembler = .empty ∧ (ch0 first).buffer = []
          ∧ (ch0 first).damage = false)
      ∧ (common last (plain 0x31) ∧ (ch0 last).assembler = .collecting ∧ (ch0 last).buffer.length < 32)
      ∧ (common spill (plain 0x31) ∧ (ch0 spill).assembler = .collecting ∧ 32 ≤ (ch0 spill).buffer.length)
      ∧ (common thrown (plain 0x31) ∧ (ch0 thrown).assembler = .discarding) := by decide +kernel

/-- Station 0's group changed. -/
def onGroup (s : State) (f : StationConfig → StationConfig) : State :=
  { s with config := { s.config with stations := s.config.stations.set 0 (f s.config.stations[0]) } }

/-- A configured mode at station 0. -/
def moded (m : Mode) (s : State) : State := onGroup s fun c => { c with mode := m }

/-- At an OUT_OF_SERVICE station a record is discarded with the step that makes it, unless the session is CLOSING (R27). -/
theorem test_out_of_service_discards :
    let cr := plain 0x0D
    let out := fun s => moded .outOfService (assembling s cr (collecting (label 12345670) false))
    let closing := onSes library fun x => { x with state := .closing }
    (common (out library) cr ∧ (out library).mode 0 = .outOfService ∧ (ch0 (after (.assemblerStep 0) (out library))).queue = [])
      ∧ (common (out closing) cr ∧ (ch0 (after (.assemblerStep 0) (out closing))).queue.length = 4) := by decide +kernel

theorem witness_CheckSchemesWeighPositions : CheckScheme.w31 ≠ .none ∧ CheckScheme.w21 ≠ .none ∧ [1] ≠ ([] : List Nat) := by decide

/-- A pattern at station 0. -/
def showing (o : OutcomeKind) (n : Nat) (lit : Bool) : State :=
  onCh desk fun c => { c with pattern := some { outcome := o, interval := n, lit := lit } }

theorem witness_PatternsAdvanceAndEnd :
    (State.reset.phase ≠ .started ∧ unpowered.running = false) ∧ (desk.running = true ∧ desk.phase = .started ∧ (ch0 desk).pattern = none)
      ∧ (∀ e ∈ [(OutcomeKind.grant, 0), (.returnOk, 0), (.staffOk, 0), (.commandOk, 2), (.refusal, 2), (.lostCard, 4), (.holdTrapped, 10),
            (.ack, 0), (.closed, 0), (.refusal, 3)], ∀ lit : Bool,
          (showing e.1 e.2 lit).running = true
            ∧ (ch0 (showing e.1 e.2 lit)).pattern = some { outcome := e.1, interval := e.2, lit := lit }) := by decide +kernel

/-- A LOST_CARD pattern that a take ends sounds on to its last beep (R22). -/
theorem test_beeps_sound_on :
    let taken := after .arbiterGrant
      (onCh library fun c => { c with pattern := some { outcome := .lostCard, interval := 1, lit := true }, queue := [scan .borrower 815] })
    let third := after (.outcomePatternTimer 0) taken
    (ch0 taken).pattern = some { outcome := .lostCard, interval := 1, lit := false }
      ∧ taken.signals 0 = { green := false, red := false, amber := false, beeper := false }
      ∧ third.signals 0 = { green := false, red := false, amber := false, beeper := true } := by decide +kernel

/-- A desk whose station 0 has its selector enabled. -/
def selecting (s : State) : State := onGroup s fun c => { c with selectorEnabled := true }

/-- Station 0's selector moved to RETURN. -/
def toReturns (s : State) : State :=
  { s with
    pins := { s.pins with selector := s.pins.selector.set 0 .returns },
    levels := { s.levels with selector := s.levels.selector.set 0 .returns } }

theorem witness_SelectorActsThroughMode :
    let out := onGroup desk fun c => { c with mode := .outOfService }
    let inFlight := deciding (selecting openDesk) (decision .loanItem .item 40000012 true)
    out.config.stations[(0 : Station)].mode = .outOfService
      ∧ (desk.config.stations[(0 : Station)].mode ≠ .outOfService ∧ desk.config.stations[(0 : Station)].selectorEnabled = false)
      ∧ ((selecting desk).config.stations[(0 : Station)].mode ≠ .outOfService
          ∧ (selecting desk).config.stations[(0 : Station)].selectorEnabled = true)
      ∧ (desk.running = true ∧ (toReturns desk).mode 0 = desk.mode 0)
      ∧ ((toReturns (selecting desk)).mode 0 ≠ (selecting desk).mode 0 ∧ (ses0 (selecting desk)).state ≠ .open_)
      ∧ ((toReturns inFlight).mode 0 ≠ inFlight.mode 0 ∧ (ses0 inFlight).state = .open_ ∧ inFlight.inFlight 0 = true)
      ∧ ((toReturns (selecting openDesk)).mode 0 ≠ (selecting openDesk).mode 0 ∧ (ses0 (selecting openDesk)).state = .open_
          ∧ (selecting openDesk).inFlight 0 = false) := by decide +kernel

/-- An OPEN session with a grant. -/
def lent : State := onSes openDesk fun x => { x with granted := [{ item := 12345670, dueDay := 9253, dueMinute := 1140, renewed := false }] }

/-- A station whose slip waits. -/
def waitingSlip (slip : Slip) : State := onSes openDesk fun x => { x with slipWait := some slip }

theorem witness_SessionsClose :
    let noSlips := onGroup lent fun c => { c with slipsEnabled := false }
    let three := onSlips lent fun u => { u with queue := List.replicate 3 loanSlip, port := .held }
    (ses0 openDesk).granted = [] ∧ noSlips.config.stations[(0 : Station)].slipsEnabled = false
      ∧ ((ses0 three).granted ≠ [] ∧ three.config.stations[(0 : Station)].slipsEnabled = true ∧ three.slips.queue.length < 4)
      ∧ ((ses0 (fullSlips lent)).granted ≠ [] ∧ 4 ≤ (fullSlips lent).slips.queue.length ∧ (fullSlips lent).config.slipWait ≠ 0)
      ∧ (openDesk.running = true ∧ (ses0 openDesk).state = .open_ ∧ (ses0 openDesk).idleTimer = true)
      ∧ ((waitingSlip loanSlip).running = true ∧ (ses0 (waitingSlip loanSlip)).slipWait = some loanSlip
          ∧ (waitingSlip loanSlip).slips.queue.length < 4)
      ∧ ((waitingSlip holdSlip).running = true ∧ (ses0 (waitingSlip holdSlip)).slipWait = some holdSlip
          ∧ holdSlip.body = .hold 40000012 9236 ∧ (waitingSlip holdSlip).slips.queue.length < 4) := by decide +kernel

/-- The order of grants: stations 0 and 2 have scans, and station 0 was granted last. -/
theorem test_grant_order :
    let s := { library with channels := Vector.replicate 4 { Channel.afterReset with queue := [scan .item 1] }, lastGranted := 0 }
    s.nextStation = some 1 ∧ State.nextStation { s with lastGranted := 3 } = some 0 ∧ desk.nextStation = none := by decide +kernel

/-- A state in which station 0 is granted next, its head scan as given. -/
def granting (s : State) (r : ScanRecord) : State := onCh s fun c => { c with queue := [r] }

theorem witness_GrantTakesHeadScan :
    let ready := fun (s : State) (r : ScanRecord) =>
      s.life = .on ∧ s.engine.phase = .free ∧ s.journal.writer ≠ .replaying ∧ s.nextStation = some 0 ∧ (ch0 s).queue = r :: []
    let item := scan .item 40000012
    let own := scan .borrower 79927398713
    let other := scan .borrower 61200000004
    let staff := scan .staff 912345671
    let refused := onSes openDesk fun x => { x with lastRefusal := some { item := 1, reason := .held, overridden := [] } }
    (ready (granting openDesk item) item ∧ (ses0 (granting openDesk item)).state = .open_ ∧ item.kind = .item)
      ∧ (ready (granting openDesk other) other ∧ other.ident ≠ (ses0 openDesk).card)
      ∧ (ready (granting openDesk own) own ∧ own.ident = (ses0 openDesk).card)
      ∧ (ready (granting refused staff) staff ∧ (ses0 refused).lastRefusal.isSome = true)
      ∧ (∀ m ∈ [Mode.loan, .mixed, .returns],
          ready (granting (moded m library) own) own ∧ (ses0 library).state = .idle ∧ (granting (moded m library) own).mode 0 = m)
      ∧ (∀ m ∈ [Mode.loan, .mixed, .returns],
          ready (granting (moded m library) item) item ∧ (granting (moded m library) item).mode 0 = m)
      ∧ ready (granting library staff) staff := by decide +kernel

theorem witness_GrantTakesHeadScan_staff :
    ∀ e ∈ [(openDesk, scan .staff 912345671), (library, scan .unreadable 0), (openDesk, scan .badCheck 1)],
      (granting e.1 e.2).life = .on ∧ (granting e.1 e.2).engine.phase = .free ∧ (granting e.1 e.2).journal.writer ≠ .replaying
        ∧ (granting e.1 e.2).nextStation = some 0 ∧ (ses0 e.1).state ≠ .closing ∧ (ses0 e.1).lastRefusal = none := by decide +kernel

/-- The library with a window of station 0, in a session that is IDLE or OPEN. -/
def windowed (s : State) (level : Nat) : State := onSes s fun x => { x with window := some { index := 0, level := level } }

theorem witness_GrantTakesHeadScan_command :
    let ready := fun (s : State) (n : Nat) =>
      let t := granting s (scan .command n)
      t.life = .on ∧ t.engine.phase = .free ∧ t.journal.writer ≠ .replaying ∧ t.nextStation = some 0
        ∧ (ch0 t).queue = scan .command n :: [] ∧ (ses0 t).state ≠ .closing
    let printed := onSlips (windowed library 1) fun u => { u with lastPrinted := some loanSlip }
    (∀ s ∈ [windowed library 1, windowed openDesk 2], ∀ n ∈ [1, 2, 3, 4, 5, 6, 7], ready s n)
      ∧ (ready (windowed openDesk 2) 8 ∧ (ses0 (windowed openDesk 2)).window = some { index := 0, level := 2 })
      ∧ (∀ n ∈ [0, 8, 9], ready (windowed library 1) n) ∧ (ready library 1 ∧ (ses0 library).window = none)
      ∧ (ready printed 5 ∧ printed.slips.lastPrinted ≠ none ∧ printed.slips.queue.length < 4 ∧ desk.slips.lastPrinted = none)
      ∧ (ready (onSlips (windowed library 1) fun u => { u with port := .held }) 6 ∧ desk.slips.port = .idle) := by decide +kernel

theorem witness_LoanChecksHold :
    let d := decision .loanItem .item 40000012 true
    d.task = .loanItem ∧ desk.tables.valid = false
      ∧ (openDesk.evaluate d true).granted = some { item := 40000012, dueDay := 9253, dueMinute := 1140, renewed := false } := by
  decide +kernel

/-- For each check of R53 a state in which it is the first that fails, and states that pass them all, at the figures where some meet; at the
end a grant and a duplicate. -/
theorem witness_LoanChecksHold_checks :
    let free := decision .loanItem .item 1 true
    let of := fun (b : Borrower) => onTables openDesk fun t => { t with bankA := { t.bankA with tables := { tables with borrowers := [b] } } }
    let state := fun (st : ExceptionState) =>
      onTables openDesk fun t => { t with bankA := { t.bankA with tables := { tables with
        exceptions := [{ heldItem with item := 1, state := st, holdCard := 815 }] } } }
    let cell := fun (p : PolicyCell) =>
      onTables openDesk fun t => { t with bankA := { t.bankA with tables := { tables with policy := List.replicate 256 p } } }
    let out := fun (card : Nat) (s : State) => { s with loans := [{
      item := 1, card := card, sequence := 7120, dueDay := 9245, dueMinute := 1140, renewals := 2, override := false, transferred := false }] }
    let many := onSes openDesk fun x => { x with granted := List.replicate 24 { item := 2, dueDay := 0, dueMinute := 0, renewed := false } }
    let reason := fun (s : State) (recorded : Bool) => (s.evaluateLoan free recorded 1 [] none none).reason
    reason (onTables openDesk fun t => { t with valid := false }) true = some .tablesInvalid
      ∧ reason (onClock openDesk fun c => { c with isSet := false }) true = some .clockUnset
      ∧ reason many true = some .sessionFull ∧ reason openDesk false = some .journalFull ∧ reason (of lostReader) true = some .noRecord
      ∧ reason (of { reader with expiry := 9230 }) true = some .expired ∧ reason (of { reader with expiry := 9231 }) true = none
      ∧ reason (of { reader with flags := { adminBlock := true, overdueBlock := false, lost := false } }) true = some .blocked
      ∧ reason (of { reader with fines := 1001 }) true = some .fines ∧ reason (of { reader with fines := 1000 }) true = none
      ∧ reason (state .notForLoan) true = some .notForLoan ∧ reason (state .missing) true = some .itemAlert
      ∧ reason (state .onLoanElsewhere) true = some .onLoan ∧ reason (state .holdWaiting) true = some .held
      ∧ reason (out 815 openDesk) true = some .onLoan ∧ reason (out reader.card openDesk) true = some .renewLimit
      ∧ reason (cell { kind := .notLoanable, period := 0, renewals := 0 }) true = some .notLoanable
      ∧ reason (of { reader with snapshot := 8 }) true = some .limit ∧ reason (of { reader with snapshot := 7 }) true = none
      ∧ reason { openDesk with loans := List.replicate 1024 {
          item := 2, card := 815, sequence := 1, dueDay := 0, dueMinute := 0, renewals := 0, override := false, transferred := false } } true
          = some .localFull
      ∧ (openDesk.evaluateLoan free true 1 [] none none).kind = .loan
      ∧ ((onSes openDesk fun x => { x with granted := [{ item := 1, dueDay := 0, dueMinute := 0, renewed := false }] }).evaluateLoan
            free true 1 [] none none).kind = .duplicate := by
  decide +kernel

theorem witness_CardsAreLookedUp :
    let card := fun n => decision .cardLookup .borrower n false
    let used : State := { library with sessions := library.sessions.set 1 { Session.afterReset with state := .closing, card := 79927398713 } }
    let inUse := fun (s : State) (d : Decision) =>
      ∃ k : Station, k ≠ d.station ∧ s.sessions[k].state ≠ .idle ∧ s.sessions[k].card = d.scan.ident
    let found := fun (s : State) (d : Decision) => s.tables.liveTables.borrower? d.scan.ident
    let guests : State := { library with config := { library.config with guestMode := true } }
    let staff := decision .staffCard .staff 912345671 true
    let last : LastRefusal := { item := 40000012, reason := .limit, overridden := [] }
    let high : LastRefusal := { last with reason := .held }
    let fixed : LastRefusal := { last with reason := .noRecord }
    ((card 1).task = .cardLookup ∧ desk.tables.valid = false ∧ library.tables.valid = true)
      ∧ (found library (card 61200000004) = some lostReader ∧ lostReader.flags.lost = true)
      ∧ (found used (card 79927398713) = some reader ∧ reader.flags.lost = false ∧ inUse used (card 79927398713))
      ∧ (¬inUse library (card 815) ∧ found library (card 815) = none ∧ library.config.guestMode = false)
      ∧ (¬inUse guests (card 815) ∧ found guests (card 815) = none ∧ guests.config.guestMode = true)
      ∧ (¬inUse library (card 79927398713) ∧ (found library (card 79927398713)).isSome = true)
      ∧ (staff.task = .staffCard ∧ library.tables.liveTables.staff? 1 = none
          ∧ library.tables.liveTables.staff? staff.scan.ident = some (0, { number := 912345671, level := 1 }))
      ∧ (staff.sessionState = .open_ ∧ staff.lastRefusal = none ∧ ({ staff with lastRefusal := some last } : Decision).lastRefusal = some last)
      ∧ (library.config.level high.reason ≠ 0 ∧ 1 < library.config.level high.reason ∧ library.config.level fixed.reason = 0
          ∧ library.config.level last.reason ≠ 0 ∧ library.config.level last.reason ≤ 1) := by decide +kernel

theorem witness_ReturnFollowsItsEntries :
    let d := decision .returnItem .item 40000012 false
    let l : LoanEntry :=
      { item := 40000012, card := 61200000004, sequence := 7120, dueDay := 9231, dueMinute := 679, renewals := 0, override := false,
        transferred := false }
    let late : State := { library with loans := [l] }
    d.task = .returnItem ∧ desk.tables.valid = false ∧ library.tables.valid = true ∧ library.clock.isSet = true
      ∧ (onClock library fun c => { c with isSet := false }).clock.isSet = false
      ∧ findLoan library.loans d.scan.ident = none ∧ findLoan late.loans d.scan.ident = some l
      ∧ (late.evaluate d true).record.map (fun r => (r.flags.late, r.flags.holdTrapped)) = some (true, true) := by decide +kernel

theorem witness_DecisionEffectsApply :
    let s := moded .loan openDesk
    let lends := decision .loanItem .item 40000012 true
    let enters := decision .cardLookup .borrower 79927398713 false
    let back := library.evaluate (decision .returnItem .item 40000012 false) true
    let pending := onSes openDesk fun x => { x with closePending := true }
    let full := fullSlips library
    (s.running = true ∧ s.phase = .started ∧ (s.evaluate lends true).holdSlip = none ∧ (ses0 s).closePending = false)
      ∧ ((ses0 pending).state = .open_ ∧ (ses0 pending).closePending = true)
      ∧ ((library.evaluate enters true).opens = some false ∧ (moded .returns library).mode 0 = .returns
          ∧ (moded .outOfService library).mode 0 = .outOfService)
      ∧ (back.holdSlip.map (·.body) = some (.hold 40000012 9236) ∧ library.slips.queue.length < 4
          ∧ 4 ≤ full.slips.queue.length ∧ full.config.slipWait ≠ 0 ∧ library.config.stations[(0 : Station)].slipsEnabled = true
          ∧ (onGroup library fun c => { c with slipsEnabled := false }).config.stations[(0 : Station)].slipsEnabled = false) := by
  decide +kernel

theorem witness_RollsEndAsStated :
    let same := fun t m h =>
      springCalendar.closed t = false ∧ m < springCalendar.closeMinute t ∧ m + 60 * h ≤ springCalendar.closeMinute t
    (lastDay ≤ lastDay ∧ 0 ≤ lastDay) ∧ 9231 ≤ 9231 ∧ (¬same 36523 1081 1 ∧ 36523 < 36524) ∧ (same 9231 1080 1 ∧ 9231 ≤ 9231)
      ∧ (36524 = 36524 ∧ (0 = 0 ∨ 36524 ≤ 0)) := by decide +kernel

theorem witness_DayLoanDueTime :
    let rolled := springCalendar.rollForward (min (9231 + 21) lastDay)
    lastDay ≤ lastDay ∧ (0 = 0 ∨ lastDay ≤ 0 ∧ 0 ≤ lastDay) ∧ 0 ≤ lastDay
      ∧ (9231 ≤ lastDay ∧ (9231 ≤ 9252 ∧ 9252 ≤ lastDay) ∧ 9252 < rolled ∧ (9252 : Nat) ≠ 0)
      ∧ (9231 ≤ 9251 ∧ 9251 < rolled ∧ 9251 ≤ 9252) := by decide +kernel

theorem witness_HourLoanDueTime :
    let counts := fun t m => springCalendar.closed t = false ∧ m < springCalendar.closeMinute t
    let same := fun t m h => counts t m ∧ m + 60 * h ≤ springCalendar.closeMinute t
    let next := springCalendar.rollForward (9231 + 1)
    (9231 ≤ lastDay ∧ same 9231 1080 1)
      ∧ (¬same 9231 1081 1 ∧ counts 9231 1081 ∧ springCalendar.closeMinute 9231 + 1 = 1081 + 60 * 1 ∧ 9231 < lastDay
          ∧ ¬springCalendar.closeMinute next < springCalendar.openMinute next + 1)
      ∧ (¬counts 9231 1140 ∧ springCalendar.openMinute next + 60 * 10 = springCalendar.closeMinute next
          ∧ springCalendar.closeMinute next < springCalendar.openMinute next + 60 * 11)
      ∧ (¬same lastDay 1439 1 ∧ lastDay ≤ lastDay) ∧ ((9231 : Nat) ≠ 0 ∧ 9231 ≤ 9231 ∧ 9231 < next ∧ next ≤ next) := by decide +kernel

/-- A journal whose first `n` slots are used, and one whose every page is FULL. -/
def usedTo (n : Nat) : Journal := { Journal.factory with slots := (List.range n).map fun k => (k, Slot.torn) }
def fullPages (j : Journal) : Journal := { j with pages := Vector.replicate 128 .full }

/-- No page of that journal is RELEASED or ERASING. -/
theorem usedTo_page (n p : Nat) : (usedTo n).page p = .erased := by
  show ((Vector.replicate 128 PageState.erased)[p]?).getD .erased = .erased
  rw [Vector.getElem?_replicate]
  split <;> rfl

theorem usedTo_free (n : Nat) : (usedTo n).free = 4096 - n := by
  have all : (usedTo n).slots.filter (fun e => !((usedTo n).page (e.1 / pageSlots)).givesFree) = (usedTo n).slots := by
    simp [usedTo_page, PageState.givesFree]
  rw [Journal.free, Journal.used, all]
  simp [usedTo, slotCount]

theorem witness_TurnServesHeadRequest_figures :
    ((usedTo 4031).exhausted = false ∧ 64 < (usedTo 4031).free ∧ (usedTo 4031).headWritable = true)
      ∧ (1 ≤ (usedTo 4032).free ∧ (usedTo 4032).free ≤ 64 ∧ (usedTo 4032).headWritable = true)
      ∧ (1 ≤ (usedTo 4095).free ∧ (usedTo 4095).exhausted = false) ∧ (usedTo 4096).free = 0
      ∧ ({ Journal.factory with lastComplete := 4294967295 } : Journal).exhausted = true
      ∧ ((fullPages Journal.factory).exhausted = false ∧ 64 < (fullPages Journal.factory).free
          ∧ (fullPages Journal.factory).headWritable = false) := by
  simp only [usedTo_free]
  decide +kernel

/-- A record to write. -/
def anyRecord (s : State) : JournalRecord := s.recordBase .restart 15

/-- A journal at the loan reserve, the Decision Engine at the head of its request order. -/
def lowJournal : Journal := { usedTo 4032 with requests := [.engine] }

theorem free_of_requests (j : Journal) (l : List Requester) : ({ j with requests := l } : Journal).free = j.free := rfl

theorem lowJournal_unrecorded : lowJournal.turnFor .loanClass = .unrecorded := by
  have free : lowJournal.free = 64 := by rw [lowJournal, free_of_requests, usedTo_free]
  simp [Journal.turnFor, free, loanReserve]

theorem witness_TurnServesHeadRequest :
    let d := decision .loanItem .item 40000012 true
    let p : Patch := .borrower 79927398713 .delete
    let patching := onTables (asking library .patch) fun t => { t with patch := some p }
    let grants := asking (deciding openDesk d) .engine
    let opens := asking (deciding library (decision .cardLookup .borrower 79927398713 false)) .engine
    let bad := decision .badScan .badCheck 1 false
    let last := fun s : State => onJournal s fun j => { j with lastComplete := 4294967295 }
    let waits := last (asking (deciding library bad) .engine)
    let low := onJournal (deciding openDesk d) fun _ => lowJournal
    (∀ r ∈ [Requester.close 0, .commit, .restart, .patch],
        (asking library r).life = .on ∧ (asking library r).journal.writer = .idle ∧ (asking library r).journal.requests = r :: []
          ∧ (asking library r).journal.turnFor .returnClass = .recorded)
      ∧ (patching.journal.requests = .patch :: [] ∧ patching.tables.patch = some p)
      ∧ (low.life = .on ∧ low.journal.writer = .idle ∧ low.journal.requests = .engine :: [] ∧ low.engine.decision = some d
          ∧ d.requestClass = .loanClass ∧ d.task = .loanItem ∧ low.journal.turnFor .loanClass = .unrecorded)
      ∧ (grants.engine.decision = some d ∧ grants.journal.turnFor d.requestClass = .recorded
          ∧ (grants.evaluate d true).record.isSome = true)
      ∧ (opens.journal.turnFor .returnClass = .recorded
          ∧ (opens.evaluate (decision .cardLookup .borrower 79927398713 false) true).record = none)
      ∧ (waits.engine.decision = some bad ∧ waits.journal.requests = .engine :: [] ∧ bad.requestClass = .returnClass
          ∧ waits.journal.turnFor .returnClass = .waits ∧ (last (asking library .restart)).journal.turnFor .returnClass = .waits) :=
  ⟨by decide +kernel, by decide +kernel,
    ⟨by decide +kernel, by decide +kernel, by decide +kernel, by decide +kernel, by decide +kernel, by decide +kernel,
      lowJournal_unrecorded⟩,
    by decide +kernel, by decide +kernel, by decide +kernel⟩

theorem witness_CompletedRecordIsReadable :
    let s := writing library (anyRecord library) .restart
    s.life = .on ∧ s.journal.writer = .writing (anyRecord library) .restart ∧ (anyRecord library).sequence = s.journal.lastComplete + 1
      ∧ slotsWf s.journal.slots = true ∧ s.journal.page (7309 % 4096 / 32) = .erased ∧ findSlot s.journal.slots (7309 % 4096) = none
      ∧ s.journal.page ((7309 % 4096 / 32 + 127) % 128) ≠ .full ∧ 1 ≤ s.journal.free := by decide +kernel

/-- The first record of page 1, with page 0 FULL and its 32 records released, or one of them not yet. -/
theorem witness_CompletedRecordIsReadable_releases :
    let records := (List.range 32).map fun k => (k, Slot.record { anyRecord desk with sequence := k + 1 })
    let at_ := fun released => onJournal desk fun j =>
      { j with slots := records, lastComplete := 32, released := released, pages := j.pages.set 0 .full }
    let done := fun released =>
      (after .recordWriteCompletion (writing (at_ released) { anyRecord desk with sequence := 33 } .restart)).journal
    32 % 32 = 0 ∧ (at_ 32).journal.page 0 = .full ∧ (done 32).page 0 = .released ∧ (done 31).page 0 = .full := by decide +kernel

theorem witness_CompletionServesRequester :
    let r := anyRecord library
    let q : ClockRequest := { op := .set 9232 0, phase := .writing 9232 0 0 2 }
    let clock := onClock (writing library r .clock) fun c => { c with request := some q }
    let d := decision .loanItem .item 40000012 true
    let v := openDesk.evaluate d true
    let engine := writing { openDesk with engine := { openDesk.engine with phase := .writing, decision := some d, verdict := some v } } r .engine
    let commit := { r with kind := .tableCommit, item := 7309 }
    (∀ o ∈ [Requester.restart, .patch, .close 0], (writing library r o).life = .on ∧ (writing library r o).journal.writer = .writing r o)
      ∧ ((writing library r (.close 0)).mode 0 ≠ .outOfService
          ∧ (moded .outOfService (writing library r (.close 0))).mode 0 = .outOfService)
      ∧ (let waits : State := { writing library r .restart with life := .waitRestart }
         waits.running = true ∧ waits.journal.eraseMarker = none ∧ waits.configStore = none)
      ∧ ({ writing library r .restart with life := .waitReset } : State).running = true
      ∧ (clock.life = .on ∧ clock.journal.writer = .writing r .clock ∧ clock.clock.request = some q)
      ∧ (engine.life = .on ∧ engine.journal.writer = .writing r .engine ∧ engine.engine.decision = some d ∧ engine.engine.verdict = some v)
      ∧ ((writing library commit .commit).life = .on ∧ (writing library commit .commit).journal.writer = .writing commit .commit
          ∧ commit.kind = .tableCommit) := by decide +kernel

/-- A journal that replays. -/
def replaying (s : State) : State := onJournal s fun j => { j with writer := .replaying }

theorem witness_ReplayRebuildsList :
    let start := replaying { library with phase := .replay }
    let commit := onTables (replaying library) fun t => { t with commit := { t.commit with state := .replaying } }
    (start.life = .on ∧ start.journal.writer = .replaying ∧ start.phase = .replay
        ∧ (start.tables.rewriteLive fun t => (start.journal.recordsAbove start.tables.basis).foldl (fun u r => applyToTables r u) t).commit.state
            = .idle)
      ∧ (commit.life = .on ∧ commit.journal.writer = .replaying ∧ commit.phase = .started
          ∧ (commit.tables.rewriteLive fun t => (commit.journal.recordsAbove commit.tables.basis).foldl (fun u r => applyToTables r u) t).commit.state
              = .replaying) := by decide +kernel

theorem witness_EraseBlanksOnePage :
    let queued := onJournal library fun j => { j with eraseQueue := [127] }
    let running := onJournal library fun j => { j with eraseMarker := some 127 }
    let again : State := { running with phase := .recovery }
    (queued.life = .on ∧ queued.phase ≠ .recovery ∧ 127 < 128 ∧ queued.journal.eraseMarker = none ∧ queued.journal.eraseQueue = 127 :: [])
      ∧ (running.life = .on ∧ running.journal.eraseMarker = some 127)
      ∧ (again.life = .on ∧ again.phase = .recovery ∧ again.journal.eraseMarker = some 127) := by decide +kernel

theorem witness_RecordEffectsAreIdempotent :
    let r := fun (k : RecordKind) (f : RecordFlags) => { anyRecord library with kind := k, item := 40000012, card := 79927398713, flags := f }
    let found := fun st => onTables library fun t =>
      { t with bankA := { t.bankA with tables := { tables with exceptions := [{ heldItem with state := st }] } } }
    let entry := fun st => (found st).tables.liveTables.exception? 40000012
    let p : Patch := .borrower 79927398713 .delete
    (∀ k ∈ [RecordKind.loan, .renew, .returned, .tablePatch, .restart], (r k {}).kind = k)
      ∧ (∀ st ∈ [ExceptionState.holdWaiting, .holdOnShelf, .missing, .onLoanElsewhere], entry st = some { heldItem with state := st })
      ∧ heldItem.holdCard = (r .loan { holdFilled := true }).card ∧ (found .missing).tables.liveTables.exception? 1 = none
      ∧ patchOf (p.record { anyRecord library with kind := .tablePatch }) = some p
      ∧ reader.card = 79927398713 ∧ heldItem.item = 40000012 := by decide +kernel

theorem witness_ReleasedNeverDecreases :
    exec .leave desk = .next (after .leave desk) ∧ exec (.journalRelease 7000) library = .next (after (.journalRelease 7000) library) :=
  ⟨rfl, rfl⟩

/-- A desk whose clock stands as given. -/
def clockAt (day minute second : Nat) (halted : Bool) : State :=
  onClock desk fun c => { c with day := day, minute := minute, second := second, halted := halted }

theorem witness_TimeBaseCounts :
    ((clockAt 36524 1439 59 true).life ≠ .off ∧ (clockAt 36524 1439 59 true).clock.halted = true)
      ∧ ((clockAt 0 1439 58 false).clock.halted = false ∧ (clockAt 0 1439 58 false).clock.second < 59)
      ∧ ((clockAt 0 1438 59 false).clock.second = 59 ∧ (clockAt 0 1438 59 false).clock.minute < 1439)
      ∧ ((clockAt 36523 1439 59 false).clock.minute = 1439 ∧ (clockAt 36523 1439 59 false).clock.day < 36524)
      ∧ ((clockAt 36524 1439 59 false).clock.halted = false ∧ (clockAt 36524 1439 59 false).clock.day = 36524) := by decide +kernel

/-- A printer port with slips, at a byte of a current one. -/
def printing (port : Port) (line : PrinterLine) (queue : List Slip) (buffer : List Byte) : State :=
  onSlips desk fun u => { u with queue := queue, port := port, line := line, buffer := buffer }

theorem witness_PrinterTestsItsInputs :
    let more := printing .printing (.sending 0x41 4 true) [loanSlip] [0x41, 0x42]
    let last := printing .stopping (.sending 0x2E 4 true) [loanSlip] [0x2E]
    let only := printing .printing (.sending 0x2E 4 true) [loanSlip] [0x2E]
    let two := printing .printing (.sending 0x2E 4 true) [loanSlip, holdSlip] [0x2E]
    let orphan := printing .held (.sending 0x2E 4 false) [] []
    let waiting := printing .paused .mark [loanSlip] [0x41]
    (desk.running = true ∧ waiting.running = true)
      ∧ (waiting.slips.port.hasCurrent = true ∧ waiting.slips.line = .mark ∧ waiting.slips.position < waiting.slips.buffer.length)
      ∧ (more.running = true ∧ more.slips.line = .sending 0x41 4 true ∧ more.slips.position + 1 < more.slips.buffer.length)
      ∧ (last.running = true ∧ last.slips.line = .sending 0x2E 4 true ∧ last.slips.buffer.length ≤ last.slips.position + 1
          ∧ last.slips.queue = loanSlip :: [] ∧ last.slips.port = .stopping)
      ∧ (only.slips.queue = loanSlip :: [] ∧ only.slips.port ≠ .stopping ∧ only.slips.buffer.length ≤ only.slips.position + 1)
      ∧ (two.slips.queue = loanSlip :: holdSlip :: [] ∧ two.slips.port ≠ .stopping ∧ two.slips.buffer.length ≤ two.slips.position + 1)
      ∧ (orphan.running = true ∧ orphan.slips.line = .sending 0x2E 4 false) ∧ waiting.ready = false := by decide +kernel

theorem witness_PrinterControlActs :
    (∀ p ∈ [Port.printing, .paused, .stopping, .idle, .held], (printing p .mark [] []).serves 1 = true ∧ (printing p .mark [] []).slips.port = p)
      ∧ ((printing .held .mark [] []).slips.queue = [] ∧ (printing .held .mark [loanSlip] []).slips.queue = loanSlip :: [])
      ∧ (let s := onSlips (printing .held .mark (List.replicate 3 loanSlip) []) fun u => { u with lastPrinted := some loanSlip }
         s.serves 1 = true ∧ s.slips.lastPrinted = some loanSlip ∧ s.slips.queue.length < 4 ∧ s.slips.port ≠ .idle)
      ∧ (let s := onSlips desk fun u => { u with lastPrinted := some loanSlip }
         s.slips.lastPrinted = some loanSlip ∧ s.slips.port = .idle ∧ s.slips.queue = []) := by decide +kernel

/-- The factory record is in range. -/
theorem factory_inRange : ConfigRecord.factory.InRange :=
  ⟨by decide +kernel, by decide, by decide, by decide, by decide, by decide, by decide, by decide, by decide, by decide, by decide, by decide,
    by decide, ⟨by decide, fun _ h => by cases h⟩, ⟨by decide, fun _ h => by cases h⟩, ⟨by decide, fun _ h => by cases h⟩⟩

theorem witness_RenderingFitsBuffer :
    ConfigRecord.factory.InRange
      ∧ (List.replicate 24 ({ item := maxIdentity, dueDay := 65535, dueMinute := 0, renewed := true } : Granted)).length ≤ 24
      ∧ maxIdentity ≤ maxIdentity := ⟨factory_inRange, by decide, by decide⟩

/-- A link receiver as given. -/
def receiverAt (r : LinkReceiver) (f : Link → Link) : State := onLink desk fun l => f { l with receiver := r }

theorem witness_LinkReceiverFollowsTable :
    let low := receiverAt .crcLow fun l => { l with crc := 0x1234, crcHigh := 0x12 }
    (∀ r ∈ [LinkReceiver.hunt, .length, .type, .payload, .crcHigh, .crcLow, .waitMark],
        (receiverAt r id).running = true ∧ (receiverAt r id).link.shut = false ∧ (receiverAt r id).link.receiver = r)
      ∧ (0xA5 : Byte) ≠ 0xA4 ∧ (240 : Byte).toNat ≤ 240 ∧ 240 < (241 : Byte).toNat
      ∧ low.link.crcHigh * 256 + (0x34 : Byte).toNat = low.link.crc ∧ low.link.crcHigh * 256 + (0x35 : Byte).toNat ≠ low.link.crc := by
  decide +kernel

/-- A frame at the transmitter, waiting or being sent. -/
def frame (tag : FrameTag) : Frame := { type := 0x87, payload := [0], tag := tag }
def queued (t : TxItem) : State := onLink desk fun l => { l with tx := [t] }
def sending (t : TxItem) : State := onLink desk fun l => { l with sending := some { item := t, bytes := [0xA5] } }

theorem witness_TransmitterSendsInOrder :
    ((queued (.response (frame .plain))).running = true ∧ (queued (.response (frame .plain))).link.sending = none
        ∧ (queued (.response (frame .plain))).link.tx = .response (frame .plain) :: [])
      ∧ (queued .notice).link.tx = .notice :: [] ∧ (sending .notice).link.sending = some { item := .notice, bytes := [0xA5] }
      ∧ (∀ tag ∈ [FrameTag.plain, .restart, .configure 0],
          (sending (.response (frame tag))).running = true
            ∧ (sending (.response (frame tag))).link.sending = some { item := .response (frame tag), bytes := [0xA5] }
            ∧ (sending (.response (frame tag))).life = .on ∧ (sending (.response (frame tag))).storing = false
            ∧ (sending (.response (frame tag))).journal.eraseMarker = none ∧ (sending (.response (frame tag))).configStore = none)
      ∧ (let waits : State := { queued .notice with life := .waitRestart }
         waits.running = true ∧ waits.life = .waitRestart)
      ∧ (onJournal (sending (.response (frame .restart))) fun j => { j with eraseMarker := some 0 }).journal.eraseMarker.isSome = true := by
  decide +kernel

/-- After a Restart response nothing more is sent: the notice that waits is lost, and the part restarts as its store completes (R182). -/
theorem test_restart_loses_notice :
    let s := onLink (onJournal desk fun j => { j with eraseMarker := some 0 }) fun l =>
      { l with tx := [.notice], sending := some { item := .response (frame .restart), bytes := [] } }
    let waits := after .transmitFrameEnd s
    let t := after .eraseComplete waits
    waits.life = .waitRestart ∧ waits.link.tx = [] ∧ t.life = .on ∧ t.heldCause = some .restartRequest ∧ t.link.tx = [] := by decide +kernel

theorem witness_FrameArrivesWhole :
    (receiverAt .hunt id).running = true ∧ (receiverAt .hunt id).link.shut = false ∧ (receiverAt .hunt id).link.receiver = .hunt
      ∧ (List.replicate 240 (0xA5 : Byte)).length ≤ 240 := by decide +kernel

theorem witness_RequestReadsBack : Request.configure [0] ≠ .configure [] ∧ Request.configureRead ≠ .configure [] := by decide

/-- Four responses that wait. -/
def fullResponses : State := onLink desk fun l => { l with tx := List.replicate 4 (.response (frame .plain)) }

theorem witness_FrameChecksInOrder :
    let guest := onLink desk fun l => { l with access := 1 }
    (fullResponses.life = .on ∧ fullResponses.link.shut = false ∧ 4 ≤ fullResponses.link.responses)
      ∧ (desk.life = .on ∧ desk.link.shut = false ∧ desk.link.responses < 4)
      ∧ 0x80 ≤ (0x80 : Byte).toNat ∧ ((0x7F : Byte).toNat < 0x80 ∧ requestLevel 0x7F = none) ∧ requestLevel 0x18 = none
      ∧ (requestLevel 0x03 = some 0 ∧ State.reset.phase ≠ .started)
      ∧ (requestLevel 0x17 = some 2 ∧ guest.phase = .started ∧ guest.link.access < 2)
      ∧ (requestLevel 0x02 = some 0 ∧ parseRequest 0x02 [0] = .misfit) := by decide +kernel

theorem witness_StatusAndAccess :
    (State.reset.life = .on ∧ State.reset.link.shut = false ∧ State.reset.link.responses < 4) ∧ 3 < (4 : Byte).toNat
      ∧ (State.reset.phase = .recovery ∧ desk.phase ≠ .recovery) ∧ desk.phase = .started ∧ desk.journal.lastComplete < 4294967295
      ∧ (desk.engine.last[(0 : Station)] = none
          ∧ (after .arbiterGrant (granting library (scan .badCheck 1))).engine.last[(0 : Station)] = none) := by decide +kernel

/-- The figures of the Journal section are 0 in phase 1, the unrecorded-refusal counter of the Desk section among them (R152). -/
theorem test_figures_wait_for_recovery :
    let s : State := { State.reset with engine := { State.reset.engine with unrecorded := 5 } }
    let shown := fun s : State => match (after (.statusRead 0 0) s).link.tx.getLast? with
      | some (.response f) => (f.payload.drop 11).take 2
      | _ => []
    shown s = [0, 0] ∧ shown { s with phase := .replay } = [0, 5] := by decide +kernel

theorem witness_ClockRequestsAreChecked :
    let pendingSet := onClock desk fun c => { c with request := some { op := .set 9231 0, phase := .awaitingTurn } }
    let set := asking pendingSet .clock
    let adjust := fun s : State => asking (onClock s fun c => { c with request := some { op := .adjust (-15), phase := .awaitingTurn } }) .clock
    (desk.serves 2 = true ∧ desk.serves 1 = true ∧ desk.clock.request = none ∧ desk.clock.isSet = false)
      ∧ (pendingSet.serves 2 = true ∧ pendingSet.clock.request.isSome = true)
      ∧ (36524 < (36525 : BitVec 16).toNat ∧ (36524 : BitVec 16).toNat ≤ 36524 ∧ 1439 < (1440 : BitVec 16).toNat
          ∧ (1439 : BitVec 16).toNat ≤ 1439)
      ∧ ((0xF0 : Byte).toInt < -15 ∧ -15 ≤ (0xF1 : Byte).toInt ∧ (15 : Byte).toInt ≤ 15 ∧ 15 < (16 : Byte).toInt)
      ∧ (library.serves 1 = true ∧ library.clock.request = none ∧ library.clock.isSet = true)
      ∧ (set.life = .on ∧ set.journal.writer = .idle ∧ set.journal.requests = .clock :: [] ∧ set.journal.turnFor .returnClass = .recorded
          ∧ set.clock.request = some { op := .set 9231 0, phase := .awaitingTurn })
      ∧ ((adjust desk).clock.isSet = false ∧ (adjust library).clock.isSet = true
          ∧ (adjust library).clock.request = some { op := .adjust (-15), phase := .awaitingTurn }
          ∧ (adjust library).journal.turnFor .returnClass = .recorded) := by decide +kernel

theorem witness_StationControlActs :
    let flying := deciding openDesk (decision .loanItem .item 40000012 true)
    (desk.serves 1 = true ∧ Mode.ofCode (2 : Byte).toNat = some .mixed ∧ Mode.ofCode (3 : Byte).toNat = some .outOfService
        ∧ (ses0 desk).state ≠ .open_)
      ∧ 3 < (4 : Byte).toNat ∧ (openDesk.serves 1 = true ∧ (ses0 openDesk).state = .open_ ∧ openDesk.inFlight 0 = false)
      ∧ (flying.serves 1 = true ∧ (ses0 flying).state = .open_ ∧ flying.inFlight 0 = true)
      ∧ (openDesk.mode 0 = .mixed ∧ (moded .outOfService openDesk).mode 0 ≠ .mixed ∧ (moded .loan openDesk).mode 0 ≠ .mixed) := by
  decide +kernel

/-- Set mode OUT_OF_SERVICE on an OPEN session: the session closes with its window closed, and its waiting scan stays (R25, R27). -/
theorem test_out_of_service_closes :
    let s := granting (onSes openDesk fun x => { x with window := some { index := 0, level := 1 } }) (scan .item 1)
    let t := after (.stationControlSetMode 0 3) s
    (ses0 t).state = .closing ∧ (ses0 t).window = none ∧ (ch0 t).pattern = none ∧ (ch0 t).queue = [scan .item 1]
      ∧ t.mode 0 = .outOfService := by decide +kernel

theorem witness_ConfigureStoresRecord :
    let bytes := ConfigRecord.factory.bytes
    let storing : State := { desk with configStore := some ConfigRecord.factory }
    (desk.serves 2 = true ∧ desk.configStore = none ∧ bytes.length = 162 ∧ ConfigRecord.ofBytes bytes = some ConfigRecord.factory)
      ∧ (storing.life = .on ∧ storing.configStore = some ConfigRecord.factory ∧ ConfigRecord.factory.stations = storing.config.stations) := by
  decide +kernel

/-- A record that changes station 0's data bits and puts it out of service: its FIFO is lost, and its session closes (R1, R25). -/
theorem test_configure_changes_station :
    let record := (moded .outOfService (onGroup desk fun c => { c with dataBits := 7 })).config
    let s : State := { onCh openDesk (fun c => { c with fifo := [plain 0x31] }) with configStore := some record }
    let t := after .configureStoreComplete s
    (s.life = .on ∧ s.configStore = some record) ∧ (ch0 t).fifo = [] ∧ (ch0 t).receiver = .waitMark ∧ (ses0 t).state = .closing
      ∧ t.config = record := by decide +kernel

/-- A desk with a table LOADING, of a declared count of 1 and no entry yet, or with its entry written. -/
def loadingStaff (pointer : Nat) : State :=
  onTables desk fun t =>
    { t.setStandby .staff { state := .loading, copyPoint := none, failure := none } with
      load := some { table := .staff, count := 1, pointer := pointer, crc := 0xFFFF, previousKey := none } }

theorem witness_TableLoads :
    let c : LoadContext := { table := .staff, count := 1, pointer := 0, crc := 0xFFFF, previousKey := none }
    let good := (Entry.staff { number := 912345671, level := 1 }).bytes
    let bad := (Entry.staff { number := 912345671, level := 3 }).bytes
    let run := fun b => (loadEntries 1 c desk.tables.standbyBank.tables b).2.2
    (desk.serves 2 = true ∧ desk.tables.committing = false ∧ (desk.tables.standbyOf .staff).state ≠ .copying
        ∧ desk.tables.protection.loadMask.getLsbD 6 = false ∧ desk.tables.filling = false ∧ countAllowed .staff 32 = true)
      ∧ ((loadingStaff 0).serves 2 = true ∧ (loadingStaff 0).tables.loading .staff = some c ∧ (loadingStaff 0).loadFits 6 1 good = true
          ∧ run good = none ∧ run bad = some .range ∧ (loadingStaff 0).loadFits 6 1 bad = true)
      ∧ ((loadingStaff 1).tables.loading .staff = some { c with pointer := 1 } ∧ (0xFFFF : BitVec 16).toNat = c.crc)
      ∧ (decodeEntry .staff true good = some (.staff { number := 912345671, level := 1 }) ∧ decodeEntry .staff true bad = none
          ∧ (Entry.staff { number := 912345671, level := 1 }).key = some 912345671) := by decide +kernel

/-- A desk whose eight standby tables are COMPLETE, its Staff table copied. -/
def complete : State :=
  onTables library fun t => { t with standby := Vector.replicate 8 { state := .complete, copyPoint := some 7309, failure := none } }

/-- A validation that runs, over the factory standby bank or over one whose eight tables pass. -/
def validating : State := onTables library fun t => { t with commit := { t.commit with state := .validating } }

/-- Tables that pass validation. -/
def passing : TableSet :=
  { tables with
    symbols := formats ++ List.replicate 3 { lead := [], minLength := 32, maxLength := 4, kind := .item, check := .none, strip := 0 } }
def byTable (f : TableId → Nat) : Vector Nat 8 :=
  #v[f .borrower, f .itemException, f .classRange, f .category, f .policy, f .calendar, f .staff, f .symbolFormat]
def passingBank : Bank := { tables := passing, crcs := byTable passing.crc }
def validatingGood : State := onTables validating fun t => { t with bankB := passingBank }

theorem witness_CopiesAndCommits :
    let copying := onTables library fun t => { t with copy := some { table := .staff, source := tables, crc := 0 } }
    (library.serves 2 = true ∧ library.tables.committing = false ∧ library.tables.patch = none ∧ library.tables.valid = true
        ∧ library.tables.filling = false)
      ∧ (copying.running = true ∧ copying.tables.copy = some { table := .staff, source := tables, crc := 0 })
      ∧ (complete.serves 2 = true ∧ complete.tables.committing = false ∧ complete.tables.patch = none
          ∧ (∀ n ∈ TableId.all, (complete.tables.standbyOf n).state = .complete) ∧ complete.tables.basis ≤ (7309 : BitVec 32).toNat
          ∧ (7309 : BitVec 32).toNat ≤ complete.journal.lastComplete ∧ (complete.tables.standbyOf .borrower).copyPoint = some 7309)
      ∧ (validating.running = true ∧ validating.tables.commit.state = .validating ∧ validating.tables.commit.validated = false
          ∧ validateTable validating.tables.standbyBank.tables validating.tables.standbyBank.crcs[TableId.category.index] .category
              = some .format
          ∧ (∀ m ∈ [TableId.borrower, .itemException, .classRange],
              validateTable validating.tables.standbyBank.tables validating.tables.standbyBank.crcs[m.index] m = none)) := by
  decide +kernel

theorem validateTable_passes (t : TableSet) (n : TableId) (h : countAllowed n (t.count n) = true)
    (hr : (t.entries n).all Entry.inRange = true) (ho : strictlyAscending ((t.entries n).filterMap Entry.key) = true)
    (hf : t.related n = true) : validateTable t (t.crc n) n = none := by simp [validateTable, h, hr, ho, hf]

theorem byTable_index (f : TableId → Nat) (n : TableId) : (byTable f)[n.index] = f n := by cases n <;> rfl

theorem witness_CopiesAndCommits_passes :
    ∀ n : TableId, validateTable validatingGood.tables.standbyBank.tables validatingGood.tables.standbyBank.crcs[n.index] n = none := by
  intro n
  have crc : validatingGood.tables.standbyBank.crcs[n.index] = passing.crc n := byTable_index passing.crc n
  rw [crc]
  cases n <;> exact validateTable_passes passing _ (by decide +kernel) (by decide +kernel) (by decide +kernel) (by decide +kernel)

theorem witness_PatchesBecomePending :
    let key : BitVec 48 := 79927398713
    let item : BitVec 48 := 40000012
    let e := { reader with fines := 5 }
    (library.serves 1 = true ∧ library.tables.committing = false ∧ library.tables.patch = none ∧ library.tables.valid = true
        ∧ 1 ≤ (1 : BitVec 48).toNat ∧ (99999999999999 : BitVec 48).toNat ≤ 99999999999999)
      ∧ ((library.tables.standbyOf .borrower).state ≠ .copying ∧ (library.tables.standbyOf .itemException).state ≠ .copying
          ∧ library.tables.protection.patchMask.getLsbD 4 = false)
      ∧ ((7 : Byte).toNat < 8 ∧ (36524 : BitVec 16).toNat ≤ 36524
          ∧ (∀ op ∈ [BorrowerOp.setFlags (BorrowerFlags.ofCode 7), .clearFlags (BorrowerFlags.ofCode 7), .setFines 65535, .setExpiry 36524,
                .insert e, .delete], library.tables.protection.forbids (.borrower key.toNat op) = false))
      ∧ (e.card = key.toNat ∧ (Entry.borrower e).inRange = true
          ∧ library.tables.liveTables.fullFor (.borrower key.toNat (.insert e)) = false)
      ∧ (heldItem.item = item.toNat ∧ (Entry.exception heldItem).inRange = true
          ∧ presenceRule heldItem.state heldItem.holdCard heldItem.holdExpiry = true
          ∧ library.tables.liveTables.fullFor (.item item.toNat (.insert heldItem)) = false)
      ∧ (presenceRule .holdOnShelf 79927398713 (some 36524) = true ∧ presenceRule .missing 0 none = true) := by decide +kernel

theorem witness_ReadsReportEntries :
    let l : LoanEntry :=
      { item := 1, card := 815, sequence := 7002, dueDay := 9253, dueMinute := 1140, renewals := 0, override := false, transferred := false }
    (library.serves 1 = true ∧ library.tables.commit.state ≠ .replaying ∧ library.tables.valid = true)
      ∧ (library.tables.liveTables.borrower? 79927398713 = some reader ∧ library.tables.liveTables.borrower? 1 = none)
      ∧ (library.tables.liveTables.exception? 40000012 = some heldItem ∧ library.tables.liveTables.exception? 1 = none)
      ∧ (library.tables.liveTables.staff? 920000008 = some (1, { number := 920000008, level := 2 })
          ∧ library.tables.liveTables.staff? 1 = none)
      ∧ (255 < (library.tables.liveTables.entries .policy).length ∧ (library.tables.liveTables.entries .policy).length ≤ 256)
      ∧ (library.journal.writer ≠ .replaying ∧ findLoan library.loans 1 = none ∧ findLoan [l] 1 = some l) := by decide +kernel

theorem witness_JournalReadsAndReleases :
    library.serves 1 = true ∧ library.serves 2 = true
      ∧ min (0 : BitVec 32).toNat (min library.tables.basis library.journal.lastComplete) ≤ library.journal.released
      ∧ library.journal.released < min (7001 : BitVec 32).toNat (min library.tables.basis library.journal.lastComplete)
      ∧ slotsWf library.journal.slots = true ∧ library.journal.page (library.journal.lastComplete % 4096 / 32) = .erased
      ∧ (fullPages Journal.factory).page 0 = .full := by decide +kernel

/-- Two FULL pages of records: a release through the first one's last record frees it alone, and leaves the page of the last record. -/
theorem witness_JournalReadsAndReleases_pages :
    let records := (List.range 64).map fun k => (k, Slot.record { anyRecord desk with sequence := k + 1 })
    let j := fun released : Nat => { Journal.factory with
      slots := records, lastComplete := 64, released := released, pages := (Journal.factory.pages.set 0 .full).set 1 .full }
    slotsWf records = true ∧ (j 32).releasePages.eraseQueue = [0] ∧ (j 31).releasePages.eraseQueue = []
      ∧ (j 64).releasePages.eraseQueue = [0] ∧ (j 32).free = 4032 ∧ (j 32).releasePages.free = 4064 ∧ (j 32).tailPage = 0
      ∧ ((j 0).readRecords 63).map (·.sequence) = [63, 64] ∧ ((j 0).readRecords 0).map (·.sequence) = [1, 2, 3, 4, 5, 6] := by decide +kernel

theorem witness_ClearConditionsClears :
    desk.serves 1 = true ∧ (18 ≤ 30 ∧ 30 ≤ 30 ∧ (0x40000000 : BitVec 32).getLsbD 30 = true) ∧ (0x00040000 : BitVec 32).getLsbD 18 = true
      ∧ (∀ k : Fin 31, 18 ≤ k.val → (0x8003FFFF : BitVec 32).getLsbD k.val = false) := by decide +kernel

theorem witness_SettingsRequestsStore :
    let guarded := onTables desk fun t => { t with protection := { t.protection with lock := .lineGuarded } }
    let keyed : State := { guarded with levels := { guarded.levels with maintenance := true } }
    (desk.serves 2 = true ∧ desk.tables.protection.lock = .opened)
      ∧ (guarded.serves 2 = true ∧ guarded.tables.protection.lock ≠ .opened ∧ guarded.levels.maintenance = false)
      ∧ (keyed.serves 2 = true ∧ keyed.tables.protection.lock = .lineGuarded ∧ keyed.levels.maintenance = true)
      ∧ ((1 : BitVec 48).toNat < (2 : BitVec 48).toNat ∧ ¬((0 : BitVec 48) = 0 ↔ (1 : BitVec 48) = 0) ∧ 3 < (4 : Byte).toNat)
      ∧ (LockMode.ofCode (3 : Byte).toNat = some .fixed ∧ (1 : BitVec 48).toNat ≤ (99999999999999 : BitVec 48).toNat
          ∧ ((1 : BitVec 48) = 0 ↔ (99999999999999 : BitVec 48) = 0) ∧ (0 : BitVec 48).toNat ≤ (0 : BitVec 48).toNat) := by decide +kernel

theorem witness_DeskAttnAndNotices :
    let routed : State := { desk with config := { desk.config with noticeMask := 0x80 } }
    let out : State := { routed with levels := { routed.levels with paperOut := true } }
    let waits := onLink out fun l => { l with tx := [.notice] }
    (out.running = true ∧ out.active .paperOut = true ∧ routed.active .paperOut = false ∧ out.config.noticeMask.getLsbD 7 = true)
      ∧ out.link.noticePresent = false ∧ waits.link.noticePresent = true ∧ desk.deskAttn = true
      ∧ unpowered.life = .off ∧ (State.reset.life ≠ .off ∧ State.reset.phase = .recovery ∧ desk.phase ≠ .recovery) := by decide +kernel

theorem witness_StartsKeepWhatTheySay :
    let waits : State := { library with life := .waitReset, resetLine := true }
    let early : State := { waits with phase := .recovery, resetLine := false }
    let writingNow := writing waits (anyRecord library) .restart
    let restarts := sending (.response (frame .restart))
    unpowered.life = .off ∧ library.life = .on ∧ ({ library with life := .waitRestart } : State).life = .waitRestart
      ∧ (waits.life = .waitReset ∧ waits.resetLine = true ∧ waits.journal.writer = .idle ∧ waits.journal.eraseMarker = none
          ∧ waits.configStore = none)
      ∧ (early.phase = .recovery ∧ early.resetLine = false)
      ∧ (writingNow.life = .waitReset ∧ writingNow.journal.writer = .writing (anyRecord library) .restart)
      ∧ ({ library with life := .inReset } : State).life = .inReset
      ∧ (restarts.life = .on ∧ restarts.journal.writer = .idle
          ∧ restarts.link.sending = some { item := .response (frame .restart), bytes := [0xA5] } ∧ (frame .restart).tag = .restart)
      ∧ (writingNow.journal.headSlot = 3213 ∧ library.journal.writer = .idle) := by decide +kernel

/-- A reset in phase 1 waits for the erase that recovery redoes, and for a torn slot: the RESET_LINE start finds neither (R145, R154). -/
theorem test_reset_lets_recovery_repair :
    let s := onJournal State.reset fun j => { j with slots := [(0, .torn), (40, .torn)], eraseMarker := some 1 }
    let held := after .resetEntered (after .resetLineAssert s)
    let t := after .recoveryComplete (after .resetLineRelease (after .resetEntered (after .eraseComplete held)))
    held.life = .waitReset ∧ t.phase = .replay ∧ t.journal.slots = [] ∧ t.journal.tornMark = false ∧ t.journal.erasedAgainMark = false
      ∧ t.heldCause = some .resetLine := by decide +kernel

theorem witness_RecoveryDerivesTheJournal :
    let record := fun n => { anyRecord desk with sequence := n }
    let torn := onJournal State.reset fun j => { j with
      slots := [(0, .record (record 1)), (33, .record (record 34)), (4095, .torn)], eraseMarker := some 1 }
    let commit := { record 1 with kind := .tableCommit, item := 0, aux0 := 1 }
    let flipped := onJournal State.reset fun j => { j with slots := [(0, .record commit)] }
    let t := after .recoveryComplete torn
    let u := after .recoveryComplete flipped
    (torn.life = .on ∧ torn.phase = .recovery ∧ slotsWf torn.journal.slots = true ∧ slotsWf flipped.journal.slots = true)
      ∧ (t.journal.slots = [(0, .record (record 1))] ∧ t.journal.page 0 = .filling ∧ t.journal.tornMark = true
          ∧ t.journal.erasedAgainMark = true)
      ∧ flipped.tables.live = .a ∧ u.tables.live = .b := by decide +kernel

theorem witness_EntryReadsBack :
    let header : Entry := .header spring
    let blank := anyRecord library
    (header.inRange = true ∧ (Entry.closedDay 36524).inRange = true ∧ (Entry.borrower reader).inRange = true
        ∧ (Entry.exception heldItem).inRange = true ∧ (Entry.policy { kind := .hours, period := 12, renewals := 15 }).inRange = true)
      ∧ blank.item = 0 ∧ (1 ≤ 1 ∧ 65535 ≤ 65535) ∧ (reader.card = 79927398713)
      ∧ presenceRule heldItem.state heldItem.holdCard heldItem.holdExpiry = true ∧ presenceRule .holdOnShelf 815 (some 0) = true := by
  decide +kernel

theorem witness_ConfigReadsBack : ConfigRecord.factory.InRange := factory_inRange

/-- A command waits at the factory desk, and its step answers. -/
def grantWaits : State := { desk with pending := [.arbiterGrant] }

theorem grantWaits_steps : step grantWaits = .next (after .arbiterGrant desk) := rfl

theorem witness_StepsKeepChannels : grantWaits.ChannelsWf ∧ step grantWaits = .next (after .arbiterGrant desk) :=
  ⟨by decide +kernel, grantWaits_steps⟩

theorem witness_StepsKeepSlipUnit : grantWaits.slips.Wf ∧ step grantWaits = .next (after .arbiterGrant desk) :=
  ⟨by decide +kernel, grantWaits_steps⟩

theorem witness_StepsKeepLink : grantWaits.link.Wf ∧ step grantWaits = .next (after .arbiterGrant desk) :=
  ⟨⟨by decide, by decide, by decide, by decide, by decide, rfl⟩, grantWaits_steps⟩

theorem witness_StepsKeepSettings : grantWaits.SettingsWf ∧ step grantWaits = .next (after .arbiterGrant desk) :=
  ⟨⟨⟨by decide, by decide, by decide, by decide, fun _ h => by cases h⟩, by decide, factory_inRange, fun _ h => by cases h⟩,
    grantWaits_steps⟩

theorem witness_StepsKeepStore : grantWaits.StoreWf ∧ step grantWaits = .next (after .arbiterGrant desk) :=
  ⟨by decide +kernel, grantWaits_steps⟩

end Sys2Proof.Tests
end

section
/-! SUPPORT. Rules for the shared operations over the state: a channel changed twice, what the effective mode rests on, and scans discarded. -/

namespace Sys2Proof.Machine

/-- No channel takes part in the effective mode (R24). -/
theorem State.outOfService_withChannels (s : State) (v : PerStation Channel) (i : Station) :
    ({ s with channels := v } : State).outOfService i = s.outOfService i := rfl

/-- Two changes of one channel: the second meets the channel as the hold line's test left it (R5). -/
theorem State.onChannel_onChannel (s : State) (i : Station) (f g : Channel → Channel) :
    (s.onChannel i f).onChannel i g = s.onChannel i fun ch => g ((f ch).retest (s.outOfService i)) := by
  simp only [State.onChannel, State.outOfService_withChannels, Fin.getElem_fin, Vector.getElem_set_self, Vector.set_set]

/-- A change of a channel is known by what the channel becomes. -/
theorem State.onChannel_congr {s : State} {i : Station} {f g : Channel → Channel}
    (h : (f s.channels[i]).retest (s.outOfService i) = (g s.channels[i]).retest (s.outOfService i)) :
    s.onChannel i f = s.onChannel i g := by
  simp only [State.onChannel, h]

/-- The effective mode rests on the stations' groups and the debounced levels alone (R24). -/
theorem State.mode_congr {s t : State} (hc : t.config.stations = s.config.stations) (hl : t.levels = s.levels) (i : Station) :
    t.mode i = s.mode i := by
  simp only [State.mode, hc, hl]

theorem State.discardScans_of_closed {s : State} {i : Station} (h : s.mode i = .outOfService ∧ s.sessions[i].state ≠ .closing) :
    s.discardScans i = s.onChannel i fun ch => { ch with queue := [] } := by
  have hcond : (s.outOfService i && s.sessions[i].state != .closing) = true := by simpa [State.outOfService] using h
  rw [State.discardScans, if_pos hcond]

theorem State.discardScans_of_serving {s : State} {i : Station} (h : ¬(s.mode i = .outOfService ∧ s.sessions[i].state ≠ .closing)) :
    s.discardScans i = s := by
  have hcond : ¬(s.outOfService i && s.sessions[i].state != .closing) = true := by simpa [State.outOfService] using h
  rw [State.discardScans, if_neg hcond]

end Sys2Proof.Machine
end

section
/-! SUPPORT. The wand channels stay within Table 2: each operation on a channel keeps it well formed, and so does everything a command does to the state. -/

namespace Sys2Proof.Machine

open Config

/-! ### One channel (Table 2) -/

theorem Channel.retest_wf {ch : Channel} (h : ch.Wf) (outOfService : Bool) : (ch.retest outOfService).Wf := h

theorem Channel.afterReset_wf : Channel.afterReset.Wf := by decide

/-- A character finds the holding stage used, and then replaces it, or room in the FIFO, or the FIFO full and the stage free (R3, R4). -/
theorem Channel.accept_wf {ch : Channel} (h : ch.Wf) (c : WandChar) : (ch.accept c).1.Wf := by
  obtain ⟨hfifo, hhold, hrest⟩ := h
  unfold Channel.accept
  split
  · next held hh => exact ⟨hfifo, .inr (hhold.resolve_left (by simp [hh])), hrest⟩
  · next hh =>
    split
    · next hroom => exact ⟨by simpa using hroom, .inl hh, hrest⟩
    · next hfull => exact ⟨hfifo, .inr (hfifo.antisymm (Nat.not_lt.mp hfull)), hrest⟩

theorem Channel.dropSymbol_wf {ch : Channel} (h : ch.Wf) : ch.dropSymbol.Wf := by
  obtain ⟨hfifo, hhold, -, -, hqueue, herrors⟩ := h
  exact ⟨hfifo, hhold, Nat.zero_le _, by simp [Channel.dropSymbol], hqueue, herrors⟩

theorem Channel.settingsChanged_wf {ch : Channel} (h : ch.Wf) : ch.settingsChanged.Wf := by
  obtain ⟨-, -, hsymbol⟩ := Channel.dropSymbol_wf h
  exact ⟨Nat.zero_le _, .inl rfl, hsymbol⟩

/-- The buffer grows only while it has room, and EMPTY alone has an empty one (R6, R7). -/
theorem Channel.ordinary_wf {ch : Channel} (h : ch.Wf) (c : WandChar) : (ch.ordinary c).Wf := by
  obtain ⟨hfifo, hhold, hbuffer, hempty, hend⟩ := h
  unfold Channel.ordinary
  split
  · exact ⟨hfifo, hhold, by simp [symbolLength], by simp, hend⟩
  · next ha =>
    split
    · next hroom => exact ⟨hfifo, hhold, by simpa using hroom, by simp [ha], hend⟩
    · exact ⟨hfifo, hhold, hbuffer, by simpa [ha] using hempty, hend⟩
  · exact ⟨hfifo, hhold, hbuffer, hempty, hend⟩

theorem Channel.dispose_channel (formats : Option (List SymbolFormat)) (ch : Channel) (damaged : Bool) :
    (ch.dispose formats damaged).channel = { ch.dropSymbol with afterTerminator := true } := by
  unfold Channel.dispose
  repeat' split
  all_goals rfl

/-- What a character makes of a channel: its symbol dropped, or kept with the character appended or not. -/
theorem Channel.take_channel (formats : Option (List SymbolFormat)) (ch : Channel) (c : WandChar) :
    (Channel.take formats ch c).channel = ch.dropSymbol
      ∨ (Channel.take formats ch c).channel = { ch.dropSymbol with afterTerminator := true }
      ∨ (Channel.take formats ch c).channel = { ch with afterTerminator := false }
      ∨ (Channel.take formats ch c).channel = ({ ch with afterTerminator := false } : Channel).ordinary c := by
  unfold Channel.take
  split
  · exact .inl rfl
  · split
    · split
      · exact .inr (.inr (.inl rfl))
      · exact .inr (.inl (Channel.dispose_channel ..))
      · exact .inr (.inl (Channel.dispose_channel ..))
    · split
      · exact .inr (.inr (.inl rfl))
      · exact .inr (.inr (.inr rfl))

theorem Channel.take_wf (formats : Option (List SymbolFormat)) {ch : Channel} (h : ch.Wf) (c : WandChar) :
    (Channel.take formats ch c).channel.Wf := by
  have hdropped := Channel.dropSymbol_wf h
  obtain e | e | e | e := Channel.take_channel formats ch c <;> rw [e]
  · exact hdropped
  · exact hdropped
  · exact h
  · exact Channel.ordinary_wf (show ({ ch with afterTerminator := false } : Channel).Wf from h) c

@[simp] theorem Channel.ordinary_queue (ch : Channel) (c : WandChar) : (ch.ordinary c).queue = ch.queue := by
  unfold Channel.ordinary
  repeat' split
  all_goals rfl

@[simp] theorem Channel.take_queue (formats : Option (List SymbolFormat)) (ch : Channel) (c : WandChar) :
    (Channel.take formats ch c).channel.queue = ch.queue := by
  obtain e | e | e | e := Channel.take_channel formats ch c <;> rw [e]
  · rfl
  · rfl
  · simp

/-- The head leaves the FIFO and the held character follows at its tail (R3). -/
theorem Channel.shifted_wf {ch : Channel} (h : ch.Wf) {c : WandChar} {rest : List WandChar} (hf : ch.fifo = c :: rest) :
    ({ ch with fifo := rest ++ ch.holding.toList, holding := none } : Channel).Wf := by
  obtain ⟨hfifo, -, hrest⟩ := h
  have hheld : ch.holding.toList.length ≤ 1 := by cases ch.holding <;> simp
  rw [hf, List.length_cons] at hfifo
  exact ⟨by simp only [List.length_append]; omega, .inl rfl, hrest⟩

/-- A step of the assembler is made only with room in the scan queue, and leaves that room (R6). -/
theorem Channel.assemble_wf {formats : Option (List SymbolFormat)} {ch : Channel} {r : AssemblerResult} (h : ch.Wf)
    (hr : ch.assemble formats = some r) : r.channel.Wf ∧ r.channel.queue.length < scanQueueDepth := by
  unfold Channel.assemble at hr
  split at hr
  · cases hr
  · next c rest hf =>
    split at hr
    · next hroom =>
      cases hr
      exact ⟨Channel.take_wf formats (Channel.shifted_wf h hf) c, by simpa using hroom⟩
    · cases hr

/-! ### The four channels -/

/-- One channel of the four replaced by a well-formed one. -/
theorem channelsWf_set {v : PerStation Channel} (h : ∀ j : Station, (v[j]).Wf) (i : Station) {ch : Channel} (hc : ch.Wf) :
    ∀ j : Station, ((v.set i ch)[j]).Wf := by
  intro j
  by_cases hij : i.val = j.val
  · simpa [Vector.getElem_set, hij] using hc
  · simpa [Vector.getElem_set, hij] using h j

theorem State.ChannelsWf.of_eq {s t : State} (h : s.ChannelsWf) (e : t.channels = s.channels) : t.ChannelsWf := by
  intro i
  rw [e]
  exact h i

theorem State.onChannel_channelsWf {s : State} (h : s.ChannelsWf) (i : Station) {f : Channel → Channel}
    (hf : (f s.channels[i]).Wf) : (s.onChannel i f).ChannelsWf :=
  channelsWf_set h i (Channel.retest_wf hf _)

theorem State.setReceiver_channelsWf {s : State} (h : s.ChannelsWf) (i : Station) (r : Receiver) : (s.setReceiver i r).ChannelsWf :=
  channelsWf_set h i (h i)

theorem State.setPattern_channelsWf {s : State} (h : s.ChannelsWf) (i : Station) (p : Option Pattern) :
    (s.setPattern i p).ChannelsWf :=
  channelsWf_set h i (h i)

theorem State.display_channelsWf {s : State} (h : s.ChannelsWf) (i : Station) (o : OutcomeKind) : (s.display i o).ChannelsWf := by
  unfold State.display
  split
  · exact channelsWf_set h i (h i)
  · exact h

theorem State.darken_channelsWf {s : State} (h : s.ChannelsWf) (i : Station) : (s.darken i).ChannelsWf := channelsWf_set h i (h i)

/-- A counted error keeps the counter at 255 or below (R19). -/
theorem State.countError_channelsWf {s : State} (h : s.ChannelsWf) (i : Station) : (s.countError i).ChannelsWf := by
  obtain ⟨hfifo, hhold, hbuffer, hempty, hqueue, -⟩ := h i
  have hc : ({ s.channels[i] with errors := min 255 (s.channels[i].errors + 1) } : Channel).Wf :=
    ⟨hfifo, hhold, hbuffer, hempty, hqueue, Nat.min_le_left ..⟩
  unfold State.countError
  dsimp only
  split
  · exact channelsWf_set h i hc
  · exact channelsWf_set h i hc

/-- A channel whose scan queue is replaced by one that fits. -/
theorem Channel.withQueue_wf {ch : Channel} (h : ch.Wf) {q : List ScanRecord} (hq : q.length ≤ scanQueueDepth) :
    ({ ch with queue := q } : Channel).Wf := by
  obtain ⟨hfifo, hhold, hbuffer, hempty, -, herrors⟩ := h
  exact ⟨hfifo, hhold, hbuffer, hempty, hq, herrors⟩

theorem State.discardScans_channelsWf {s : State} (h : s.ChannelsWf) (i : Station) : (s.discardScans i).ChannelsWf := by
  unfold State.discardScans
  split
  · exact State.onChannel_channelsWf h i (Channel.withQueue_wf (h i) (Nat.zero_le _))
  · exact h

/-! ### The wand and its assembler (R2 to R11) -/

theorem State.wandComplete_channelsWf {s : State} (h : s.ChannelsWf) (i : Station) (c : WandChar) :
    (s.wandComplete i c).ChannelsWf := by
  have hstored : (s.onChannel i fun _ => { (s.channels[i].accept c).1 with receiver := c.nextReceiver }).ChannelsWf :=
    State.onChannel_channelsWf h i (Channel.accept_wf (h i) c)
  unfold State.wandComplete
  dsimp only
  split
  · exact State.countError_channelsWf hstored i
  · exact hstored

theorem State.assembled_channelsWf {s : State} (h : s.ChannelsWf) (i : Station) {r : AssemblerResult} (hc : r.channel.Wf)
    (hroom : r.channel.queue.length < scanQueueDepth) : (s.assembled i r).ChannelsWf := by
  have hrecord : (r.record.map fun k => s.scanRecord i k.1 k.2).toList.length ≤ 1 := by cases r.record <;> simp
  have hstored : (s.onChannel i fun _ =>
      { r.channel with queue := r.channel.queue ++ (r.record.map fun k => s.scanRecord i k.1 k.2).toList }).ChannelsWf :=
    State.onChannel_channelsWf h i (Channel.withQueue_wf hc (by rw [List.length_append]; omega))
  unfold State.assembled
  refine State.discardScans_channelsWf ?_ i
  split
  · exact State.countError_channelsWf hstored i
  · exact hstored

theorem State.assemblerStep_channelsWf {s : State} (h : s.ChannelsWf) (i : Station) : (s.assemblerStep i).ChannelsWf := by
  unfold State.assemblerStep
  split
  · next r hr =>
    obtain ⟨hc, hroom⟩ := Channel.assemble_wf (h i) hr
    exact State.assembled_channelsWf h i hc hroom
  · exact h

theorem State.fragment_channelsWf {s : State} (h : s.ChannelsWf) (i : Station) : (s.fragment i).ChannelsWf :=
  State.countError_channelsWf (State.onChannel_channelsWf h i (Channel.dropSymbol_wf (h i))) i

/-! ### Sessions, modes and the arbiter (R24 to R46) -/

theorem State.beginClose_channelsWf {s : State} (h : s.ChannelsWf) (i : Station) (shown : Option OutcomeKind) :
    (s.beginClose i shown).ChannelsWf := by
  have hclosing : (s.onSession i fun x =>
      { x with state := .closing, idleTimer := false, lastRefusal := none, closePending := false,
               closeTime := s.clock.stamp }).ChannelsWf := h
  cases shown with
  | none =>
    simp only [State.beginClose]
    split
    · exact hclosing
    · exact hclosing.of_eq (State.offer_channels ..)
  | some o =>
    simp only [State.beginClose]
    split
    · exact State.display_channelsWf hclosing i o
    · exact (State.display_channelsWf hclosing i o).of_eq (State.offer_channels ..)

theorem State.closeFromOutside_channelsWf {s : State} (h : s.ChannelsWf) (i : Station) : (s.closeFromOutside i).ChannelsWf := by
  unfold State.closeFromOutside
  split
  · exact h
  · exact State.beginClose_channelsWf h i _

theorem State.modeChanged_channelsWf {s : State} (h : s.ChannelsWf) (i : Station) (before : Mode) :
    (s.modeChanged i before).ChannelsWf := by
  have hentered : (if s.outOfService i then (s.onSession i fun x => { x with window := none }).darken i else s).ChannelsWf := by
    split
    · exact State.darken_channelsWf (s := s.onSession i fun x => { x with window := none }) h i
    · exact h
  have hclosed : ∀ u : State, u.ChannelsWf → ((u.discardScans i).onChannel i id).ChannelsWf := fun u hu =>
    State.onChannel_channelsWf (State.discardScans_channelsWf hu i) i (State.discardScans_channelsWf hu i i)
  unfold State.modeChanged
  split
  · exact h
  · refine hclosed _ ?_
    split
    · exact State.closeFromOutside_channelsWf hentered i
    · exact hentered

theorem State.setMode_channelsWf {s : State} (h : s.ChannelsWf) (i : Station) (m : Mode) : (s.setMode i m).ChannelsWf := by
  unfold State.setMode
  refine State.modeChanged_channelsWf ?_ i _
  exact h

theorem State.selectorMoved_channelsWf {s : State} (h : s.ChannelsWf) (i : Station) (level : SelectorLevel) :
    (s.selectorMoved i level).ChannelsWf := by
  unfold State.selectorMoved
  refine State.modeChanged_channelsWf ?_ i _
  exact h

theorem State.takeScan_channelsWf {s : State} (h : s.ChannelsWf) (i : Station) (scan : ScanRecord) :
    (s.takeScan i scan).ChannelsWf := by
  obtain ⟨hfifo, hhold, hbuffer, hempty, hqueue, herrors⟩ := h i
  have htail : s.channels[i].queue.tail.length ≤ scanQueueDepth := by rw [List.length_tail]; omega
  unfold State.takeScan
  exact State.onChannel_channelsWf h i (f := fun ch => { ch with queue := ch.queue.tail, pattern := _ })
    ⟨hfifo, hhold, hbuffer, hempty, htail, herrors⟩

theorem State.clearCondition_channelsWf {s : State} (h : s.ChannelsWf) (c : Condition) : (s.clearCondition c).ChannelsWf := by
  cases c with
  | wandFault i =>
    obtain ⟨hfifo, hhold, hbuffer, hempty, hqueue, -⟩ := h i
    exact channelsWf_set h i ⟨hfifo, hhold, hbuffer, hempty, hqueue, Nat.zero_le _⟩
  | _ => exact h

theorem State.clearConditions_channelsWf {s : State} (h : s.ChannelsWf) (mask : BitVec 32) : (s.clearConditions mask).ChannelsWf := by
  have hfold : ((Condition.all.filter fun c => mask.getLsbD c.bit).foldl State.clearCondition s).ChannelsWf :=
    List.foldlRecOn (motive := State.ChannelsWf) _ _ h fun _ hb c _ => State.clearCondition_channelsWf hb c
  unfold State.clearConditions
  split
  · exact hfold
  · exact hfold

theorem State.command_channelsWf {s : State} (h : s.ChannelsWf) (i : Station) (n : Nat) : (s.command i n).ChannelsWf := by
  have hok := State.display_channelsWf h i .commandOk
  unfold State.command
  split
  · split
    · exact State.beginClose_channelsWf h i _
    · exact hok
  · exact State.setMode_channelsWf hok i _
  · exact State.setMode_channelsWf hok i _
  · exact State.setMode_channelsWf hok i _
  · exact State.display_channelsWf (h.of_eq (State.reprint_channels s)) i _
  · exact State.display_channelsWf (h.of_eq (State.resumePrinter_channels s)) i _
  · exact State.display_channelsWf (State.clearConditions_channelsWf h _) i _
  · exact State.setMode_channelsWf h i _
  · exact h

theorem State.commandCard_channelsWf {s : State} (h : s.ChannelsWf) (i : Station) (n : Nat) : (s.commandCard i n).ChannelsWf := by
  unfold State.commandCard
  split
  · exact State.command_channelsWf (s := s.onSession i fun x => { x with window := none }) h i n
  · exact State.display_channelsWf h i _

theorem State.grantIdle_channelsWf {s : State} (h : s.ChannelsWf) (i : Station) (scan : ScanRecord) :
    (s.grantIdle i scan).ChannelsWf := by
  have htaken := State.takeScan_channelsWf h i scan
  unfold State.grantIdle
  split
  · split
    · exact State.display_channelsWf htaken i _
    · exact htaken
    · exact htaken
    · exact htaken
  · split <;> exact htaken
  · exact htaken
  · exact State.commandCard_channelsWf htaken i _
  · exact htaken
  · exact htaken

theorem State.grantOpen_channelsWf {s : State} (h : s.ChannelsWf) (i : Station) (scan : ScanRecord) :
    (s.grantOpen i scan).ChannelsWf := by
  have htaken := State.takeScan_channelsWf h i scan
  unfold State.grantOpen
  split
  · exact htaken
  · split
    · exact State.beginClose_channelsWf htaken i _
    · exact State.beginClose_channelsWf h i _
  · exact htaken
  · exact State.commandCard_channelsWf htaken i _
  · exact htaken
  · exact htaken

theorem State.grant_channelsWf {s : State} (h : s.ChannelsWf) : s.grant.ChannelsWf := by
  unfold State.grant
  split
  · split
    · exact h
    · next i _ =>
      have hgranted : ({ s with lastGranted := i } : State).ChannelsWf := h
      split
      · exact h
      · dsimp only
        split
        · exact State.grantIdle_channelsWf hgranted i _
        · exact State.grantOpen_channelsWf hgranted i _
        · exact h
  · exact h

@[simp] theorem State.dropWaiting_channels (s : State) (i : Station) (slip : Slip) : (s.dropWaiting i slip).channels = s.channels := by
  simp [State.dropWaiting, State.endWait]
@[simp] theorem State.takeWaiting_channels (s : State) (i : Station) (slip : Slip) : (s.takeWaiting i slip).channels = s.channels := by
  simp [State.takeWaiting, State.endWait]

/-! ### Decisions and turns (R50, R133 to R136) -/

theorem State.displayFor_channelsWf {s : State} (h : s.ChannelsWf) (i : Station) (o : Option OutcomeKind) :
    (s.displayFor i o).ChannelsWf := by
  cases o with
  | none => exact h
  | some o => exact State.display_channelsWf h i o

theorem State.closeAfter_channelsWf {s : State} (h : s.ChannelsWf) (i : Station) (opened : Bool) : (s.closeAfter i opened).ChannelsWf := by
  have hclose : ∀ c : Bool, (if c then s.beginClose i (some .closed) else s).ChannelsWf := fun c => by
    split
    · exact State.beginClose_channelsWf h i _
    · exact h
  exact hclose _

theorem State.applyVerdict_channelsWf {s : State} (h : s.ChannelsWf) (d : Decision) (v : Verdict) (sequence : Nat) :
    (s.applyVerdict d v sequence).ChannelsWf := by
  unfold State.applyVerdict
  dsimp only
  refine State.closeAfter_channelsWf (State.ChannelsWf.of_eq ?_ (State.offerHold_channels ..)) _ _
  refine State.displayFor_channelsWf (State.ChannelsWf.of_eq ?_ (State.latchFor_channels ..)) _ _
  exact h.of_eq (State.onSession_channels ..)

theorem State.serveEngine_channelsWf {s : State} (h : s.ChannelsWf) (recorded : Bool) : (s.serveEngine recorded).ChannelsWf := by
  unfold State.serveEngine
  split
  · exact h
  · dsimp only
    split
    · exact h
    · exact State.applyVerdict_channelsWf h _ _ _

theorem State.serveRecorded_channelsWf {s : State} (h : s.ChannelsWf) (r : Requester) : (s.serveRecorded r).ChannelsWf := by
  cases r with
  | engine => exact State.serveEngine_channelsWf h true
  | patch =>
    simp only [State.serveRecorded]
    split
    · exact h
    · exact h
  | clock => exact h.of_eq (State.serveClock_channels s)
  | commit | close | restart => exact h

theorem State.turn_channelsWf {s : State} (h : s.ChannelsWf) : s.turn.ChannelsWf := by
  have hpopped : s.popRequest.ChannelsWf := h
  unfold State.turn
  split
  · split
    · exact h
    · split
      · exact State.serveRecorded_channelsWf hpopped _
      · exact State.serveEngine_channelsWf hpopped _
      · exact h
  · exact h

theorem State.ownerEffects_channelsWf {s : State} (h : s.ChannelsWf) (r : JournalRecord) (o : Requester) :
    (s.ownerEffects r o).ChannelsWf := by
  cases o with
  | engine =>
    simp only [State.ownerEffects]
    split
    · exact State.applyVerdict_channelsWf h _ _ _
    · exact h
  | clock => exact h.of_eq (State.setClock_channels s)
  | close i => exact State.discardScans_channelsWf (s := s.onSession i Session.closed) h i
  | patch | commit | restart => exact h

theorem State.completeWrite_channelsWf {s : State} (h : s.ChannelsWf) : s.completeWrite.ChannelsWf := by
  unfold State.completeWrite
  split
  · exact State.ownerEffects_channelsWf (s := s.recordEffects _) h _ _
  · exact h

theorem State.endReplay_channels (s : State) : s.endReplay.channels = s.channels := by
  unfold State.endReplay
  dsimp only
  repeat' split
  all_goals rfl

/-! ### The configuration record (R184) -/

theorem State.lineChanged_channelsWf {s : State} (h : s.ChannelsWf) (old : ConfigRecord) (i : Station) :
    (s.lineChanged old i).ChannelsWf := by
  unfold State.lineChanged
  split
  · exact h
  · exact State.onChannel_channelsWf h i (Channel.settingsChanged_wf (h i))

theorem State.rateStored_channels (s : State) : s.rateStored.channels = s.channels := by
  unfold State.rateStored
  split <;> rfl

theorem State.configureDone_channelsWf {s : State} (h : s.ChannelsWf) (c : ConfigRecord) : (s.configureDone c).ChannelsWf := by
  refine State.ChannelsWf.of_eq ?_ (State.rateStored_channels _)
  exact List.foldlRecOn (motive := State.ChannelsWf) _ _ h fun _ hb i _ =>
    State.modeChanged_channelsWf (State.lineChanged_channelsWf hb _ i) i _

/-! ### Starting again (R192) -/

theorem State.resetBlocks_channelsWf (s : State) : s.resetBlocks.ChannelsWf := by
  intro i
  simpa [State.resetBlocks] using Channel.afterReset_wf

theorem State.restartNow_channelsWf {s : State} (h : s.ChannelsWf) : s.restartNow.ChannelsWf := by
  obtain e | ⟨e, -⟩ := State.restartNow_cases s <;> rw [e]
  · exact h
  · exact State.resetBlocks_channelsWf s

theorem State.enterReset_channelsWf {s : State} (h : s.ChannelsWf) : s.enterReset.ChannelsWf := by
  obtain e | ⟨e, -⟩ | ⟨e, -⟩ := State.enterReset_cases s <;> rw [e]
  · exact h
  · exact State.resetBlocks_channelsWf s.repaired
  · exact State.resetBlocks_channelsWf s.repaired

theorem State.resetReleased_channels (s : State) : s.resetReleased.channels = s.channels := by
  unfold State.resetReleased
  dsimp only
  split <;> rfl

theorem State.losePower_channels (s : State) (left : SlotCut) (stored : Bool) : (s.losePower left stored).channels = s.channels := by
  unfold State.losePower
  split <;> rfl

/-! ### Requests and the link (R173 to R182) -/

@[simp] theorem State.statusRead_channels (s : State) (sect clear : Byte) : (s.statusRead sect clear).state.channels = s.channels := by
  unfold State.statusRead
  dsimp only
  split <;> rfl
@[simp] theorem State.answerClockSet_channels (s : State) (day minute : Nat) :
    (s.answerClockSet day minute).state.channels = s.channels := by
  unfold State.answerClockSet
  repeat' split
  all_goals rfl
@[simp] theorem State.answerClockAdjust_channels (s : State) (minutes : Int) :
    (s.answerClockAdjust minutes).state.channels = s.channels := by
  unfold State.answerClockAdjust
  repeat' split
  all_goals rfl
@[simp] theorem State.answerConfigure_channels (s : State) (record : List Byte) :
    (s.answerConfigure record).state.channels = s.channels := by
  unfold State.answerConfigure
  repeat' split
  all_goals rfl
@[simp] theorem State.answerBeginTable_channels (s : State) (table count : Nat) :
    (s.answerBeginTable table count).state.channels = s.channels := by
  unfold State.answerBeginTable
  repeat' split
  all_goals rfl
@[simp] theorem State.answerLoadEntries_channels (s : State) (table count : Nat) (entries : List Byte) :
    (s.answerLoadEntries table count entries).state.channels = s.channels := by
  unfold State.answerLoadEntries
  dsimp only
  repeat' split
  all_goals rfl
@[simp] theorem State.answerEndTable_channels (s : State) (table crc : Nat) :
    (s.answerEndTable table crc).state.channels = s.channels := by
  unfold State.answerEndTable
  repeat' split
  all_goals rfl
@[simp] theorem State.answerAbortLoad_channels (s : State) (table : Nat) : (s.answerAbortLoad table).state.channels = s.channels := by
  unfold State.answerAbortLoad
  repeat' split
  all_goals rfl
@[simp] theorem State.answerCopyTable_channels (s : State) (table : Nat) : (s.answerCopyTable table).state.channels = s.channels := by
  unfold State.answerCopyTable
  repeat' split
  all_goals rfl
@[simp] theorem State.answerCommitSet_channels (s : State) (basis : Nat) : (s.answerCommitSet basis).state.channels = s.channels := by
  unfold State.answerCommitSet
  dsimp only
  repeat' split
  all_goals rfl
@[simp] theorem State.answerPatch_channels (s : State) (table : TableId) (patch : Option Patch) :
    (s.answerPatch table patch).state.channels = s.channels := by
  unfold State.answerPatch
  repeat' split
  all_goals rfl
@[simp] theorem State.readKeyed_state (s : State) (e : Option (List Byte)) : (s.readKeyed e).state = s := by
  cases e <;> rfl
@[simp] theorem State.readIndexed_state (s : State) (t : TableId) (index : Nat) : (s.readIndexed t index).state = s := by
  unfold State.readIndexed
  split <;> rfl
@[simp] theorem State.answerReadEntry_state (s : State) (source table key : Nat) : (s.answerReadEntry source table key).state = s := by
  unfold State.answerReadEntry State.answerReadLive State.answerReadLoan
  dsimp only
  repeat' split
  all_goals simp [State.deny]
@[simp] theorem State.answerPrinter_channels (s : State) (action : Nat) : (s.answerPrinter action).state.channels = s.channels := by
  unfold State.answerPrinter
  repeat' split
  all_goals simp [State.done, State.deny]
@[simp] theorem State.answerSetProtection_channels (s : State) (settings : Option Protection) :
    (s.answerSetProtection settings).state.channels = s.channels := by
  unfold State.answerSetProtection
  repeat' split
  all_goals rfl

theorem State.answerStationControl_channelsWf {s : State} (h : s.ChannelsWf) (station action mode : Byte) :
    (s.answerStationControl station action mode).state.ChannelsWf := by
  unfold State.answerStationControl
  split
  · exact h
  · next i _ =>
    split
    · split
      · exact State.setMode_channelsWf h i _
      · exact h
    · split
      · exact State.closeFromOutside_channelsWf h i
      · exact h
    · exact h

theorem State.answerClear_channelsWf {s : State} (h : s.ChannelsWf) (mask : BitVec 32) : (s.answerClear mask).state.ChannelsWf := by
  unfold State.answerClear
  split
  · exact h
  · exact State.clearConditions_channelsWf h mask

/-- Only Station Control and Clear Conditions reach a channel. -/
theorem State.serve_channelsWf {s : State} (h : s.ChannelsWf) (r : Request) : (s.serve r).state.ChannelsWf := by
  cases r with
  | stationControl station action mode => exact State.answerStationControl_channelsWf h station action mode
  | clearConditions mask => exact State.answerClear_channelsWf h mask
  | access | leave | configureRead | journalRead | journalRelease | setCodes | setCodesEmpty | restart => exact h
  | _ => exact h.of_eq (by simp [State.serve])

theorem State.takeFrame_channelsWf {s : State} (h : s.ChannelsWf) (type : Nat) (p : Parsed) : (s.takeFrame type p).ChannelsWf := by
  obtain e | ⟨e, -⟩ | ⟨e, -⟩ := State.takeFrame_cases s type p <;> rw [e]
  · exact h
  · exact h.of_eq (State.countLinkError_channels s)
  · obtain ⟨st, ea⟩ | ⟨r, -, -, ea⟩ := State.answer_cases s type p <;> rw [ea]
    · exact h
    · exact State.serve_channelsWf h r

theorem State.linkCharacter_channelsWf {s : State} (h : s.ChannelsWf) (b : Byte) (stop : Bool) : (s.linkCharacter b stop).ChannelsWf := by
  obtain e | e | ⟨e, -⟩ | ⟨e, -⟩ | ⟨type, payload, -, e⟩ := State.linkCharacter_cases s b stop <;> rw [e]
  · exact h
  · exact h
  · exact h
  · exact State.ChannelsWf.of_eq (s := { s with link := (s.link.receive b).1 }) h (State.countLinkError_channels _)
  · exact State.takeFrame_channelsWf (s := { s with link := (s.link.receive b).1 }) h _ _

theorem State.restartSent_channelsWf {s : State} (h : s.ChannelsWf) : s.restartSent.ChannelsWf := by
  unfold State.restartSent
  split
  · exact State.restartNow_channelsWf (s := { s with life := .waitRestart, link := { s.link with tx := [] } }) h
  · exact h

theorem State.afterFrame_channelsWf {s : State} (h : s.ChannelsWf) (item : TxItem) : (s.afterFrame item).ChannelsWf := by
  unfold State.afterFrame
  split
  · exact h
  · split
    · exact h
    · exact State.restartSent_channelsWf h
    · exact h.of_eq (State.configureSent_channels s _)

theorem State.frameSent_channelsWf {s : State} (h : s.ChannelsWf) : s.frameSent.ChannelsWf := by
  unfold State.frameSent
  split
  · exact State.afterFrame_channelsWf (s := { s with link := { s.link with sending := none } }) h _
  · exact h

/-! ### Every command -/

theorem channelsWf_of_finish {s t u : State} (h : u.ChannelsWf) (e : finish s u = .next t) : t.ChannelsWf := by
  rw [finish_next] at e
  cases e
  exact h.of_eq (settle_channels s u)

theorem channelsWf_of_finishStore {s t u : State} (h : u.ChannelsWf) (e : finishStore s u = .next t) : t.ChannelsWf :=
  channelsWf_of_finish (State.restartNow_channelsWf (h.of_eq (settle_channels s u))) e

/-- A guarded effect keeps the channels well formed when the effect does. -/
theorem channelsWf_ite {s u : State} {c : Prop} [Decidable c] (h : s.ChannelsWf) (hu : u.ChannelsWf) :
    (if c then u else s).ChannelsWf := by
  split
  · exact hu
  · exact h

theorem exec_keeps_channelsWf {s t : State} (c : Instr) (h : s.ChannelsWf) (e : exec c s = .next t) : t.ChannelsWf := by
  cases c with
  | wandCharacterStart i | wandWaitMarkEnd i =>
    exact channelsWf_of_finish (channelsWf_ite h (State.setReceiver_channelsWf h i _)) e
  | wandCharacterComplete i => exact channelsWf_of_finish (channelsWf_ite h (State.wandComplete_channelsWf h i _)) e
  | assemblerStep i => exact channelsWf_of_finish (channelsWf_ite h (State.assemblerStep_channelsWf h i)) e
  | gapTimerExpiry i => exact channelsWf_of_finish (channelsWf_ite h (State.fragment_channelsWf h i)) e
  | selectorChange i level =>
    exact channelsWf_of_finish
      (channelsWf_ite (s := s.selectorPin i level) h (State.selectorMoved_channelsWf (s := s.selectorPin i level) h i level)) e
  | outcomePatternTimer i | outcomePatternEnd i =>
    exact channelsWf_of_finish (channelsWf_ite h (State.setPattern_channelsWf h i _)) e
  | arbiterGrant => exact channelsWf_of_finish (State.grant_channelsWf h) e
  | idleTimerExpiry i => exact channelsWf_of_finish (channelsWf_ite h (State.beginClose_channelsWf h i _)) e
  | slipWaitExpiry i =>
    refine channelsWf_of_finish ?_ e
    split
    · exact h.of_eq (State.dropWaiting_channels s i _)
    · exact h
  | slipReoffer i =>
    refine channelsWf_of_finish ?_ e
    split
    · exact h.of_eq (State.takeWaiting_channels s i _)
    · exact h
  | journalTurn => exact channelsWf_of_finish (State.turn_channelsWf h) e
  | recordWriteCompletion => exact channelsWf_of_finishStore (State.completeWrite_channelsWf h) e
  | replayEnd => exact channelsWf_of_finish (h.of_eq (State.endReplay_channels s)) e
  | copyEnd =>
    refine channelsWf_of_finish ?_ e
    split <;> exact h
  | validationEnd => exact channelsWf_of_finish (channelsWf_ite h (h.of_eq (State.endValidation_channels s))) e
  | configureStoreComplete =>
    refine channelsWf_of_finishStore ?_ e
    split
    · exact State.configureDone_channelsWf h _
    · exact h
  | linkCharacter b stop => exact channelsWf_of_finish (State.linkCharacter_channelsWf h b stop) e
  | transmitFrameStart => exact channelsWf_of_finish (h.of_eq (State.transmit_channels s)) e
  | transmitFrameEnd => exact channelsWf_of_finish (State.frameSent_channelsWf h) e
  | powerOn => exact channelsWf_of_finish (channelsWf_ite (u := s.powerOn) h (State.resetBlocks_channelsWf s)) e
  | resetEntered => exact channelsWf_of_finish (State.enterReset_channelsWf h) e
  | resetLineAssert => exact channelsWf_of_finish (u := s.resetAsserted) h e
  | resetLineRelease => exact channelsWf_of_finish (h.of_eq (State.resetReleased_channels s)) e
  | powerLoss left stored => exact channelsWf_of_finish (h.of_eq (State.losePower_channels s left stored)) e
  | eraseComplete => exact channelsWf_of_finishStore (channelsWf_ite h (u := s.eraseDone) h) e
  | paperOutChange | maintenanceChange | staffWindowExpiry | eraseStart | timebaseEdge | timebaseLoss | printerByteAccepted
  | printerReadyChange | printerStallExpiry | linkGapTimeout | linkWaitMarkEnd | linkBreak | recoveryComplete =>
    exact channelsWf_of_finish (by split <;> exact h) e
  | _ => exact channelsWf_of_finish (State.takeFrame_channelsWf h _ _) e

/-- Settles O55: every operation of a command keeps each channel well formed, and a step is a command or nothing. -/
theorem stepsKeepChannels : Obligations.StepsKeepChannels := by
  intro s t h e
  unfold step at e
  split at e
  · cases e
    exact h
  · next c rest _ => exact exec_keeps_channelsWf (s := { s with pending := rest }) c h e

end Sys2Proof.Machine
end

section
/-! SUPPORT. Classification and check digits (R13 to R17): what each entry of the Symbol Format Table sees in a symbol, and the sums of the check schemes. -/

namespace Sys2Proof.Machine

/-! ### Digits -/

/-- A character is a decimal digit (R13). -/
def isDigitByte (b : Byte) : Bool := decide (0x30 ≤ b.toNat ∧ b.toNat ≤ 0x39)

/-- Characters have digits exactly when each of them is one. -/
theorem digitsOf_eq (l : List Byte) :
    digitsOf l = if l.all isDigitByte then some (l.map fun b => b.toNat - 0x30) else none := by
  induction l with
  | nil => rfl
  | cons b rest ih =>
    rw [digitsOf, ih]
    by_cases hb : 0x30 ≤ b.toNat ∧ b.toNat ≤ 0x39
    · by_cases hr : rest.all isDigitByte = true <;> simp [hb, hr, isDigitByte]
    · simp [hb, isDigitByte]

theorem decimalValue_eq_foldl (ds : List Nat) : decimalValue ds = ds.foldl (fun n d => 10 * n + d) 0 := by
  simp only [decimalValue, Nat.mul_comm]

theorem foldl_decimal_eq_zero (ds : List Nat) (n : Nat) :
    ds.foldl (fun acc d => acc * 10 + d) n = 0 ↔ n = 0 ∧ ∀ d ∈ ds, d = 0 := by
  induction ds generalizing n with
  | nil => simp
  | cons d rest ih =>
    rw [List.foldl_cons, ih, List.forall_mem_cons, ← and_assoc]
    refine and_congr_left fun _ => ?_
    omega

theorem decimalValue_eq_zero (ds : List Nat) : decimalValue ds = 0 ↔ ∀ d ∈ ds, d = 0 := by
  simp [decimalValue, foldl_decimal_eq_zero]

/-- Digits spell a number other than 0 exactly when one of them is not the character 0 (R13). -/
theorem decimalValue_digits_ne_zero {l : List Byte} (h : l.all isDigitByte = true) :
    (decimalValue (l.map fun b => b.toNat - 0x30) != 0) = l.any fun b => b.toNat != 0x30 := by
  rw [Bool.eq_iff_iff, bne_iff_ne, ne_eq, decimalValue_eq_zero]
  simp only [List.all_eq_true, isDigitByte, decide_eq_true_eq] at h
  simp only [List.mem_map, forall_exists_index, and_imp, forall_apply_eq_imp_iff₂, not_forall, List.any_eq_true, bne_iff_ne]
  refine exists_congr fun b => ?_
  constructor
  · rintro ⟨hb, hne⟩
    exact ⟨hb, by omega⟩
  · rintro ⟨hb, hne⟩
    have := h b hb
    exact ⟨hb, by omega⟩

/-! ### One entry -/

theorem isPrefixOf_eq_beq_take (lead sym : List Byte) : lead.isPrefixOf sym = (lead == sym.take lead.length) := by
  rw [Bool.eq_iff_iff, List.isPrefixOf_iff_prefix, List.prefix_iff_eq_take, beq_iff_eq]

/-- The identity digits under an entry that is not IGNORE, by R13's four conditions. -/
theorem SymbolFormat.identity_eq (f : SymbolFormat) (sym : List Byte) :
    f.identity sym
      = if (decide (f.strip < sym.length) && (sym.drop f.strip).all isDigitByte && decide ((sym.drop f.strip).length ≤ 14)
            && (sym.drop f.strip).any fun b => b.toNat != 0x30) = true
        then some (f.digitsIn sym) else none := by
  unfold SymbolFormat.identity SymbolFormat.digitsIn
  rw [digitsOf_eq]
  by_cases hs : f.strip < sym.length
  · by_cases hd : (sym.drop f.strip).all isDigitByte = true
    · rw [← decimalValue_digits_ne_zero hd]
      simp only [hs, hd, if_true, Option.filter_some, List.length_map, decide_true, Bool.true_and]
    · simp [hs, hd]
  · simp [hs]

/-- An entry matches when its shape fits and it is IGNORE or finds an identity (R13). -/
theorem SymbolFormat.matches_eq (f : SymbolFormat) (sym : List Byte) :
    f.Matches sym = (f.shapeFits sym && (f.kind == .ignore || (f.identity sym).isSome)) := by
  have hsome : ∀ (c : Bool) (ds : List Nat), (if c = true then some ds else none).isSome = c := fun c _ => by cases c <;> rfl
  rw [SymbolFormat.identity_eq, hsome, SymbolFormat.Matches, SymbolFormat.shapeFits, isPrefixOf_eq_beq_take, Bool.decide_and]
  rfl

/-- The digits an entry finds are those of the symbol behind its stripped characters. -/
theorem SymbolFormat.identity_some {f : SymbolFormat} {sym : List Byte} {ds : List Nat} (h : f.identity sym = some ds) :
    ds = f.digitsIn sym := by
  rw [SymbolFormat.identity_eq] at h
  split at h
  · exact (Option.some.inj h).symm
  · cases h

/-! ### The table -/

/-- What a matching entry makes of a symbol (R14). -/
def SymbolFormat.result (f : SymbolFormat) (sym : List Byte) : Classified :=
  if f.kind = .ignore then .dropped
  else if checkPasses f.check (f.digitsIn sym) then .scan f.kind.scanKind (decimalValue (f.digitsIn sym))
  else .scan .badCheck (decimalValue (f.digitsIn sym))

theorem classify_cons (f : SymbolFormat) (rest : List SymbolFormat) (sym : List Byte) :
    classify (f :: rest) sym = if f.Matches sym then f.result sym else classify rest sym := by
  rw [classify, SymbolFormat.matches_eq, SymbolFormat.result]
  by_cases hshape : f.shapeFits sym = true
  · by_cases hkind : f.kind = .ignore
    · simp [hshape, hkind]
    · cases hident : f.identity sym with
      | none => simp [hshape, hkind]
      | some ds => simp [hshape, hkind, SymbolFormat.identity_some hident]
  · simp [hshape]

theorem classify_eq_find (formats : List SymbolFormat) (sym : List Byte) :
    classify formats sym = ((formats.find? fun f => f.Matches sym).map fun f => f.result sym).getD (.scan .unreadable 0) := by
  induction formats with
  | nil => rfl
  | cons f rest ih =>
    rw [classify_cons, ih, List.find?_cons]
    cases f.Matches sym <;> simp

/-- Settles O9, by induction on the table: the first entry that matches is the one `find?` gives. -/
theorem firstMatchClassifies : Obligations.FirstMatchClassifies := by
  intro formats sym
  rw [classify_eq_find]
  cases formats.find? fun f => f.Matches sym with
  | none => rfl
  | some f =>
    simp only [Option.map_some, Option.getD_some, SymbolFormat.result, decimalValue_eq_foldl]
    cases f.kind <;> rfl

/-! ### Check schemes (R15 to R17) -/

/-- The alternating sum weighs the positions of one parity; `odd` says that the first position is odd. -/
theorem checkSum_eq_positional (weigh : Nat → Nat) (odd : Bool) (ds : List Nat) :
    checkSum weigh odd ds = (ds.mapIdx fun k d => if (k + odd.toNat) % 2 = 1 then weigh d else d).sum := by
  induction ds generalizing odd with
  | nil => cases odd <;> rfl
  | cons d rest ih =>
    cases odd with
    | true =>
      have hparity : ∀ k : Nat, (k + 1 + 1) % 2 = k % 2 := fun k => by omega
      simp [checkSum, ih, List.mapIdx_cons, hparity]
    | false => simp [checkSum, ih, List.mapIdx_cons]

theorem schemeSum_w31 (ds : List Nat) : schemeSum .w31 ds = sumW31 ds := checkSum_eq_positional _ true ds

theorem schemeSum_w21 (ds : List Nat) : schemeSum .w21 ds = sumW21 ds := checkSum_eq_positional _ true ds

theorem checkSum_append_zero {weigh : Nat → Nat} (h : weigh 0 = 0) (odd : Bool) (ds : List Nat) :
    checkSum weigh odd (ds ++ [0]) = checkSum weigh odd ds := by
  induction ds generalizing odd with
  | nil => cases odd <;> simp [checkSum, h]
  | cons d rest ih => cases odd <;> simp [checkSum, ih]

theorem schemeSum_append_zero (scheme : CheckScheme) (ds : List Nat) : schemeSum scheme (ds ++ [0]) = schemeSum scheme ds := by
  cases scheme with
  | none => rfl
  | w31 => exact checkSum_append_zero rfl true ds
  | w21 => exact checkSum_append_zero rfl true ds

/-- A scheme compares the last digit with what the digits before it give (R16, R17). -/
theorem checkPasses_concat {scheme : CheckScheme} (h : scheme ≠ .none) (data : List Nat) (check : Nat) :
    checkPasses scheme (data ++ [check]) = true ↔ check = (10 - schemeSum scheme data.reverse % 10) % 10 := by
  cases scheme with
  | none => exact absurd rfl h
  | w31 | w21 => simp [checkPasses]

/-- Settles O10: the model's alternating sum is the positional one, and a leading zero adds nothing to it. -/
theorem checkSchemesWeighPositions : Obligations.CheckSchemesWeighPositions := by
  refine ⟨fun data check => ⟨?_, ?_⟩, fun scheme hs => ⟨fun identity hne => ?_, fun d => ?_⟩⟩
  · rw [checkPasses_concat (by decide), schemeSum_w31]
  · rw [checkPasses_concat (by decide), schemeSum_w21]
  · obtain ⟨data, check, rfl⟩ := (List.eq_nil_or_concat' identity).resolve_left hne
    rw [Bool.eq_iff_iff, ← List.cons_append, checkPasses_concat hs, checkPasses_concat hs, List.reverse_cons, schemeSum_append_zero]
  · have hsum : schemeSum scheme [] = 0 := by cases scheme <;> rfl
    simpa [hsum] using checkPasses_concat hs [] d

end Sys2Proof.Machine
end

section
/-! SUPPORT. The wand receiver (R2 to R5, R10, R19): the commands of the wand as equations, the error counters, and the marks of a completed character. -/

namespace Sys2Proof.Machine

open Config

/-! ### The commands -/

theorem exec_wandCharacterStart (i : Station) (s : State) :
    exec (.wandCharacterStart i) s = finish s (if s.running && s.channels[i].receiver == .idle then s.setReceiver i .receiving else s) := rfl

theorem exec_wandWaitMarkEnd (i : Station) (s : State) :
    exec (.wandWaitMarkEnd i) s = finish s (if s.running && s.channels[i].receiver == .waitMark then s.setReceiver i .idle else s) := rfl

theorem exec_gapTimerExpiry (i : Station) (s : State) :
    exec (.gapTimerExpiry i) s = finish s (if s.running && s.channels[i].gapTimerRuns then s.fragment i else s) := rfl

theorem exec_wandCharacterComplete (i : Station) (data : Byte) (parity stop : Bool) (s : State) :
    exec (.wandCharacterComplete i data parity stop) s
      = finish s (if s.running && s.channels[i].receiver == .receiving then s.wandComplete i (s.wandChar i data parity stop) else s) := rfl

/-- The gap timer runs with a partial symbol, nothing waiting behind it and the hold line released (R10). -/
theorem Channel.gapTimerRuns_iff (ch : Channel) :
    ch.gapTimerRuns = true ↔ ch.assembler ≠ .empty ∧ ch.fifo = [] ∧ ch.holding = none ∧ ch.hold = false := by
  simp [Channel.gapTimerRuns, and_assoc]

/-- Settles O4, each event by the equation of its command. -/
theorem wandStartsAndFragments : Obligations.WandStartsAndFragments := by
  intro s i hrun
  refine ⟨fun hidle => ?_, fun hmark => ?_, fun hpartial hfifo hholding hhold => ?_⟩
  · rw [exec_wandCharacterStart, hrun, hidle]
    rfl
  · rw [exec_wandWaitMarkEnd, hrun, hmark]
    rfl
  · have hruns := (Channel.gapTimerRuns_iff s.channels[i]).mpr ⟨hpartial, hfifo, hholding, hhold⟩
    rw [exec_gapTimerExpiry, hrun, hruns]
    rfl

/-! ### The error counters (R19, R173) -/

/-- A counter that gains 1 and is held at its top. -/
theorem min_succ_eq_ite (top n : Nat) : min top (n + 1) = if n < top then n + 1 else top := by
  split <;> omega

theorem State.countError_eq (s : State) (i : Station) :
    s.countError i
      = { s with
          channels := s.channels.set i
            { s.channels[i] with errors := if s.channels[i].errors < 255 then s.channels[i].errors + 1 else 255 },
          latched :=
            if s.channels[i].errors = 15 then { s.latched with wandFault := s.latched.wandFault.set i true } else s.latched } := by
  simp only [State.countError, min_succ_eq_ite]
  split <;> rfl

theorem State.countLinkError_eq (s : State) :
    s.countLinkError
      = { s with
          link := { s.link with errors := if s.link.errors < 65535 then s.link.errors + 1 else 65535 },
          latched := if s.link.errors = 7 then { s.latched with linkErrors := true } else s.latched } := by
  simp only [State.countLinkError, min_succ_eq_ite]
  split <;> rfl

/-- Settles O5: the two counters' steps with the latches that they bring. -/
theorem errorCountersLatch : Obligations.ErrorCountersLatch := ⟨State.countError_eq, State.countLinkError_eq⟩

/-! ### A completed character (R2) -/

/-- Folding exclusive or over some marks tells whether an odd number of them is set. -/
theorem foldl_xor_eq_odd (p : Nat → Bool) (l : List Nat) (acc : Bool) :
    l.foldl (fun a k => xor a (p k)) acc = xor acc (decide ((l.filter p).length % 2 = 1)) := by
  induction l generalizing acc with
  | nil => simp
  | cons k rest ih =>
    rw [List.foldl_cons, ih, List.filter_cons]
    cases p k with
    | false => simp
    | true =>
      have hflip : decide (((rest.filter p).length + 1) % 2 = 1) = !decide ((rest.filter p).length % 2 = 1) := by
        rw [← decide_not]
        exact decide_eq_decide.mpr (by omega)
      simp [hflip]

/-- The ones of the data bits and of the parity bit are odd in number. -/
theorem oddOnes_xor (v : Byte) (parity : Bool) :
    xor (oddOnes v) parity
      = decide ((((List.range 8).filter fun k => v.getLsbD k).length + if parity then 1 else 0) % 2 = 1) := by
  rw [oddOnes, foldl_xor_eq_odd, Bool.false_xor]
  generalize ((List.range 8).filter fun k => v.getLsbD k).length = ones
  cases parity with
  | false => simp
  | true =>
    rw [Bool.xor_true, ← decide_not]
    exact decide_eq_decide.mpr (by simp only [if_true]; omega)

/-- Settles O6: an all-space frame is a break, and any other has its parity and its stop bit looked at. -/
theorem wandCharacterMarks : Obligations.WandCharacterMarks := by
  intro dataBits parityCode data parity stop value ones allSpace
  have hones : xor (oddOnes value) parity = decide (ones % 2 = 1) := oddOnes_xor value parity
  have hspace : (value == 0 && !stop && (parityCode == 0 || !parity)) = decide allSpace := by
    simp [allSpace, Bool.decide_and, Bool.decide_or, Bool.and_assoc, Bool.beq_eq_decide_eq]
  have heven : (!decide (ones % 2 = 1)) = decide (ones % 2 = 0) := by
    rw [← decide_not]
    exact decide_eq_decide.mpr (by omega)
  simp only [receiveWand, show wandValue dataBits data = value from rfl, hspace, hones, heven]
  by_cases h : allSpace
  · simp [h, h.1]
  · simp [h, Bool.decide_and, Bool.decide_or, Bool.beq_eq_decide_eq]

/-! ### Where the character goes (R3 to R5) -/

theorem Channel.accept_room {ch : Channel} (c : WandChar) (hh : ch.holding = none) (hf : ch.fifo.length < 16) :
    ch.accept c = ({ ch with fifo := ch.fifo ++ [c] }, false) := by
  simp [Channel.accept, hh, fifoDepth, hf]

theorem Channel.accept_full {ch : Channel} (c : WandChar) (hh : ch.holding = none) (hf : 16 ≤ ch.fifo.length) :
    ch.accept c = ({ ch with holding := some c }, false) := by
  simp [Channel.accept, hh, fifoDepth, Nat.not_lt.mpr hf]

theorem Channel.accept_overrun {ch : Channel} (c : WandChar) (hh : ch.holding.isSome = true) :
    ch.accept c = ({ ch with holding := some { c with lossNote := true }, overrun := true }, true) := by
  obtain ⟨held, hheld⟩ := Option.isSome_iff_exists.mp hh
  simp [Channel.accept, hheld]

/-- The hold line's test, in the words of R5. -/
theorem Channel.retest_eq (outOfService : Bool) (ch : Channel) :
    ch.retest outOfService
      = { ch with
          hold :=
            if outOfService then false
            else if ch.hold then decide (8 < ch.fifo.length ∨ 4 ≤ ch.queue.length)
            else decide (12 ≤ ch.fifo.length ∨ 4 ≤ ch.queue.length) } := by
  have hstays : (!(decide (ch.fifo.length ≤ 8) && decide (ch.queue.length < 4))) = decide (8 < ch.fifo.length ∨ 4 ≤ ch.queue.length) := by
    rw [← Bool.decide_and, ← decide_not]
    exact decide_eq_decide.mpr (by omega)
  have hrises : (decide (12 ≤ ch.fifo.length) || decide (4 ≤ ch.queue.length)) = decide (12 ≤ ch.fifo.length ∨ 4 ≤ ch.queue.length) :=
    (Bool.decide_or ..).symm
  rw [Channel.retest, holdNext, scanQueueDepth, hstays, hrises]

/-- Settles O7: the three places of a character, and the hold line's test. -/
theorem wandCharacterStored : Obligations.WandCharacterStored := by
  refine ⟨?_, Channel.retest_eq⟩
  intro s i data parity stop hrun hrec c ch result
  have hresult : result = .next (settle s (s.wandComplete i c)) := by
    simp only [result, exec_wandCharacterComplete, hrun, hrec]
    rfl
  refine ⟨fun hh hf => ?_, fun hh hf => ?_, fun hh => ?_⟩
  · rw [hresult, State.wandComplete, Channel.accept_room c hh hf]
    rfl
  · rw [hresult, State.wandComplete, Channel.accept_full c hh hf]
    rfl
  · rw [hresult, State.wandComplete, Channel.accept_overrun c hh]
    rfl

end Sys2Proof.Machine
end

section
/-! SUPPORT. One step of the assembler (R6 to R11): what a character makes of a channel, case by case, and what the step makes of the state. -/

namespace Sys2Proof.Machine

open Config

theorem exec_assemblerStep (i : Station) (s : State) :
    exec (.assemblerStep i) s = finish s (if s.running then s.assemblerStep i else s) := rfl

/-! ### A character taken (R7 to R9) -/

theorem WandChar.isTerminator_iff {c : WandChar} (hb : c.isBreak = false) :
    c.isTerminator = true ↔ c.value = 0x0D ∧ c.parityError = false ∧ c.framingError = false := by
  simp [WandChar.isTerminator, hb, and_assoc]

theorem WandChar.isPlainLineFeed_iff {c : WandChar} (hb : c.isBreak = false) :
    c.isPlainLineFeed = true ↔ c.value = 0x0A ∧ c.parityError = false ∧ c.framingError = false ∧ c.lossNote = false := by
  simp [WandChar.isPlainLineFeed, hb, and_assoc]

theorem WandChar.not_isTerminator_of_isPlainLineFeed {c : WandChar} (h : c.isPlainLineFeed = true) : c.isTerminator = false := by
  simp only [WandChar.isPlainLineFeed, Bool.and_eq_true, beq_iff_eq] at h
  simp [WandChar.isTerminator, h]

section
variable {formats : Option (List SymbolFormat)} {ch : Channel} {c : WandChar}

theorem Channel.take_of_break (hb : c.isBreak = true) :
    Channel.take formats ch c = { channel := ch.dropSymbol, error := false, record := none } := by
  simp [Channel.take, hb]

/-- A terminator with no symbol begun (R8). -/
theorem Channel.take_of_idle_terminator (hb : c.isBreak = false) (ht : c.isTerminator = true) (ha : ch.assembler = .empty) :
    Channel.take formats ch c = { channel := { ch with afterTerminator := false }, error := false, record := none } := by
  simp [Channel.take, hb, ht, ha]

/-- A terminator that ends a damaged symbol or one that overflowed (R8, R11). -/
theorem Channel.take_of_damaged_end (hb : c.isBreak = false) (ht : c.isTerminator = true)
    (ha : ch.assembler = .discarding ∨ ch.assembler = .collecting ∧ (ch.damage = true ∨ c.lossNote = true)) :
    Channel.take formats ch c
      = { channel := { ch.dropSymbol with afterTerminator := true }, error := true, record := none } := by
  obtain ha | ⟨ha, hd | hl⟩ := ha
  · simp [Channel.take, hb, ht, ha, Channel.dispose]
  · simp [Channel.take, hb, ht, ha, hd, Channel.dispose]
  · simp [Channel.take, hb, ht, ha, hl, Channel.dispose]

/-- A terminator that ends a whole symbol while the live set is invalid (R11, R13). -/
theorem Channel.take_of_unread_end (hb : c.isBreak = false) (ht : c.isTerminator = true) (ha : ch.assembler = .collecting)
    (hd : ch.damage = false) (hl : c.lossNote = false) :
    Channel.take none ch c
      = { channel := { ch.dropSymbol with afterTerminator := true }, error := false, record := some (.unreadable, 0) } := by
  simp [Channel.take, hb, ht, ha, hd, hl, Channel.dispose]

/-- A terminator that ends a whole symbol, which becomes a scan (R11, R14). -/
theorem Channel.take_of_scanned_end {fs : List SymbolFormat} {kind : ScanKind} {ident : Nat} (hb : c.isBreak = false)
    (ht : c.isTerminator = true) (ha : ch.assembler = .collecting) (hd : ch.damage = false) (hl : c.lossNote = false)
    (hc : classify fs ch.buffer = .scan kind ident) :
    Channel.take (some fs) ch c
      = { channel := { ch.dropSymbol with afterTerminator := true }, error := false, record := some (kind, ident) } := by
  simp [Channel.take, hb, ht, ha, hd, hl, Channel.dispose, hc]

/-- A terminator that ends a whole symbol, which an IGNORE entry drops (R11, R14). -/
theorem Channel.take_of_ignored_end {fs : List SymbolFormat} (hb : c.isBreak = false) (ht : c.isTerminator = true)
    (ha : ch.assembler = .collecting) (hd : ch.damage = false) (hl : c.lossNote = false) (hc : classify fs ch.buffer = .dropped) :
    Channel.take (some fs) ch c = { channel := { ch.dropSymbol with afterTerminator := true }, error := false, record := none } := by
  simp [Channel.take, hb, ht, ha, hd, hl, Channel.dispose, hc]

/-- The line feed directly after a terminator (R8). -/
theorem Channel.take_of_dropped_feed (hb : c.isBreak = false) (hafter : ch.afterTerminator = true) (hfeed : c.isPlainLineFeed = true) :
    Channel.take formats ch c = { channel := { ch with afterTerminator := false }, error := false, record := none } := by
  simp [Channel.take, hb, WandChar.not_isTerminator_of_isPlainLineFeed hfeed, hafter, hfeed]

/-- Any other character is an ordinary one (R7). -/
theorem Channel.take_of_ordinary (hb : c.isBreak = false) (ht : c.isTerminator = false)
    (hfeed : (ch.afterTerminator && c.isPlainLineFeed) = false) :
    Channel.take formats ch c
      = { channel := ({ ch with afterTerminator := false } : Channel).ordinary c, error := false, record := none } := by
  rw [Channel.take, hb, ht, hfeed]
  rfl

/-- The character appended to the symbol, whose damage it adds to (R7). -/
def Channel.appended (ch : Channel) (c : WandChar) : Channel :=
  { ch with
    assembler := .collecting, buffer := ch.buffer ++ [c.value],
    damage := ch.damage || c.parityError || c.framingError || c.lossNote }

theorem Channel.ordinary_of_empty (ha : ch.assembler = .empty) (hbuffer : ch.buffer = []) (hd : ch.damage = false) :
    ch.ordinary c = ch.appended c := by
  simp [Channel.ordinary, Channel.appended, WandChar.damages, ha, hbuffer, hd]

theorem Channel.ordinary_of_room (ha : ch.assembler = .collecting) (hroom : ch.buffer.length < 32) :
    ch.ordinary c = ch.appended c := by
  simp [Channel.ordinary, Channel.appended, WandChar.damages, symbolLength, ha, hroom, Bool.or_assoc]

theorem Channel.ordinary_of_full (ha : ch.assembler = .collecting) (hfull : 32 ≤ ch.buffer.length) :
    ch.ordinary c = { ch with damage := true, assembler := .discarding } := by
  simp [Channel.ordinary, symbolLength, ha, Nat.not_lt.mpr hfull]

theorem Channel.ordinary_of_discarding (ha : ch.assembler = .discarding) : ch.ordinary c = ch := by
  simp [Channel.ordinary, ha]

end

/-! ### The step on the state (R6, R18, R19, R27) -/

/-- The scan queue of a channel as an OUT_OF_SERVICE station leaves it (R27, log 19). -/
def State.keptQueue (s : State) (i : Station) (q : List ScanRecord) : List ScanRecord :=
  if s.mode i = .outOfService ∧ s.sessions[i].state ≠ .closing then [] else q

/-- A channel stored at an OUT_OF_SERVICE station loses its scans at once; the hold line is released there either way (R5, R27). -/
theorem State.discardScans_onChannel (s : State) (i : Station) (k : Channel) :
    (s.onChannel i fun _ => k).discardScans i = s.onChannel i fun _ => { k with queue := s.keptQueue i k.queue } := by
  by_cases h : s.mode i = .outOfService ∧ s.sessions[i].state ≠ .closing
  · have hout : s.outOfService i = true := by simp [State.outOfService, h.1]
    rw [State.discardScans_of_closed (s := s.onChannel i fun _ => k) h, State.onChannel_onChannel, State.keptQueue, if_pos h]
    refine State.onChannel_congr ?_
    rw [hout]
    rfl
  · rw [State.discardScans_of_serving (s := s.onChannel i fun _ => k) h, State.keptQueue, if_neg h]

/-- A counted error and a replaced scan queue touch different fields of the channel, so their order does not matter. -/
theorem State.countError_onChannel_queue (s : State) (i : Station) (q : List ScanRecord) :
    (s.countError i).onChannel i (fun ch => { ch with queue := q })
      = (s.onChannel i fun ch => { ch with queue := q }).countError i := by
  simp only [State.countError_eq, State.onChannel, Fin.getElem_fin, Vector.getElem_set_self, Vector.set_set]
  rfl

theorem State.discardScans_countError (s : State) (i : Station) :
    (s.countError i).discardScans i = (s.discardScans i).countError i := by
  have hmode : (s.countError i).mode i = s.mode i := State.mode_congr (by rw [State.countError_config]) (State.countError_levels s i) i
  by_cases h : s.mode i = .outOfService ∧ s.sessions[i].state ≠ .closing
  · rw [State.discardScans_of_closed h, State.discardScans_of_closed (by rwa [hmode, State.countError_sessions]),
      State.countError_onChannel_queue]
  · rw [State.discardScans_of_serving h, State.discardScans_of_serving (by rwa [hmode, State.countError_sessions])]

/-- A channel put in a station's place, its scans discarded where the station is OUT_OF_SERVICE (R5, R27). -/
def State.storeChannel (s : State) (i : Station) (k : Channel) : State :=
  s.onChannel i fun _ => { k with queue := s.keptQueue i k.queue }

/-- What a step of the assembler brings, its discard made with the channel's change. -/
theorem State.assembled_eq (s : State) (i : Station) (r : AssemblerResult) :
    s.assembled i r
      = if r.error then
          (s.storeChannel i { r.channel with
            queue := r.channel.queue ++ (r.record.map fun k => s.scanRecord i k.1 k.2).toList }).countError i
        else s.storeChannel i { r.channel with queue := r.channel.queue ++ (r.record.map fun k => s.scanRecord i k.1 k.2).toList } := by
  unfold State.assembled State.storeChannel
  dsimp only
  split
  · rw [State.discardScans_countError, State.discardScans_onChannel]
  · rw [State.discardScans_onChannel]

theorem State.assembled_plain (s : State) (i : Station) (k : Channel) :
    s.assembled i { channel := k, error := false, record := none } = s.storeChannel i k := by
  simp [State.assembled_eq]

theorem State.assembled_error (s : State) (i : Station) (k : Channel) :
    s.assembled i { channel := k, error := true, record := none } = (s.storeChannel i k).countError i := by
  simp [State.assembled_eq]

theorem State.assembled_record (s : State) (i : Station) (k : Channel) (kind : ScanKind) (ident : Nat) :
    s.assembled i { channel := k, error := false, record := some (kind, ident) }
      = s.storeChannel i { k with queue := k.queue ++ [s.scanRecord i kind ident] } := by
  simp [State.assembled_eq]

/-- A channel whose FIFO's head has been taken: the held character follows at its tail (R3, R6). -/
def Channel.shifted (ch : Channel) (rest : List WandChar) : Channel :=
  { ch with fifo := rest ++ ch.holding.toList, holding := none }

/-- With a character in the FIFO and room in the scan queue, the assembler takes the character (R6). -/
theorem exec_assemblerStep_of_ready {s : State} {i : Station} {c : WandChar} {rest : List WandChar} (hrun : s.running = true)
    (hfifo : s.channels[i].fifo = c :: rest) (hroom : s.channels[i].queue.length < 4) :
    exec (.assemblerStep i) s
      = .next (settle s (s.assembled i (Channel.take s.formats (s.channels[i].shifted rest) c))) := by
  have hstep : s.channels[i].assemble s.formats = some (Channel.take s.formats (s.channels[i].shifted rest) c) := by
    simp only [Channel.assemble, hfifo, scanQueueDepth, hroom, if_true]
    rfl
  rw [exec_assemblerStep, hrun, State.assemblerStep, hstep]
  rfl

/-- Settles O8, by what the character is and the assembler's state. -/
theorem assemblerTakesCharacter : Obligations.AssemblerTakesCharacter := by
  intro s i c rest hrun hfifo hroom old ch ended appended terminator droppedFeed record left result
  have hresult : result = .next (settle s (s.assembled i (Channel.take s.formats (old.shifted rest) c))) :=
    exec_assemblerStep_of_ready hrun hfifo hroom
  have hplain : ∀ k, Channel.take s.formats (old.shifted rest) c = { channel := k, error := false, record := none } →
      result = .next (settle s (left k)) := fun k hk => by
    rw [hresult, hk, State.assembled_plain]
    rfl
  have herror : ∀ k, Channel.take s.formats (old.shifted rest) c = { channel := k, error := true, record := none } →
      result = .next (settle s ((left k).countError i)) := fun k hk => by
    rw [hresult, hk, State.assembled_error]
    rfl
  have hrecord : ∀ k kind ident,
      Channel.take s.formats (old.shifted rest) c = { channel := k, error := false, record := some (kind, ident) } →
      result = .next (settle s (left { k with queue := k.queue ++ [record kind ident] })) := fun k kind ident hk => by
    rw [hresult, hk, State.assembled_record]
    rfl
  have hends : terminator → c.isBreak = false → c.isTerminator = true := fun ht hb => (WandChar.isTerminator_iff hb).mpr ht
  refine ⟨fun hb => ?_, fun hb ht ha => ?_, fun hb ht ha => ?_,
    fun hb ht ha hd hl => ⟨fun hv => ?_, fun hv kind ident hc => ?_, fun hv hc => ?_⟩, fun hb hfeed => ?_, fun hb ht hfeed => ?_⟩
  · exact hplain _ (Channel.take_of_break hb)
  · exact hplain _ (Channel.take_of_idle_terminator hb (hends ht hb) ha)
  · exact herror _ (Channel.take_of_damaged_end hb (hends ht hb) ha)
  · refine hrecord ended _ _ ?_
    rw [State.formats, hv]
    exact Channel.take_of_unread_end hb (hends ht hb) ha hd hl
  · refine hrecord ended _ _ ?_
    rw [State.formats, hv]
    exact Channel.take_of_scanned_end hb (hends ht hb) ha hd hl hc
  · refine hplain ended ?_
    rw [State.formats, hv]
    exact Channel.take_of_ignored_end hb (hends ht hb) ha hd hl hc
  · obtain ⟨hafter, hvalue⟩ := hfeed
    exact hplain _ (Channel.take_of_dropped_feed hb hafter ((WandChar.isPlainLineFeed_iff hb).mpr hvalue))
  · have hnot : (old.afterTerminator && c.isPlainLineFeed) = false := by
      rw [Bool.eq_false_iff, ne_eq, Bool.and_eq_true, WandChar.isPlainLineFeed_iff hb]
      exact hfeed
    have htake : Channel.take s.formats (old.shifted rest) c = { channel := ch.ordinary c, error := false, record := none } :=
      Channel.take_of_ordinary hb (Bool.eq_false_iff.mpr fun h => ht ((WandChar.isTerminator_iff hb).mp h)) hnot
    have hordinary : ∀ k, ch.ordinary c = k → result = .next (settle s (left k)) := fun k hk => hplain k (hk ▸ htake)
    exact ⟨fun ha hbuffer hd => hordinary _ (Channel.ordinary_of_empty (ch := ch) ha hbuffer hd),
      fun ha hlt => hordinary _ (Channel.ordinary_of_room (ch := ch) ha hlt),
      fun ha hle => hordinary _ (Channel.ordinary_of_full (ch := ch) ha hle),
      fun ha => hordinary _ (Channel.ordinary_of_discarding (ch := ch) ha)⟩

end Sys2Proof.Machine
end

section
/-! SUPPORT. Outcome patterns (R21, R22): what a pattern shows, and how the two pattern commands move it on. -/

namespace Sys2Proof.Machine

theorem exec_outcomePatternTimer (i : Station) (s : State) :
    exec (.outcomePatternTimer i) s
      = finish s (if s.running then s.setPattern i (s.channels[i].pattern.bind Pattern.next) else s) := rfl

theorem exec_outcomePatternEnd (i : Station) (s : State) :
    exec (.outcomePatternEnd i) s
      = finish s (if s.running then s.setPattern i (s.channels[i].pattern.bind Pattern.timedOut) else s) := rfl

/-! ### What a station shows (R21) -/

theorem State.enabled_iff (s : State) : s.enabled = true ↔ s.running = true ∧ s.phase = .started := by
  simp [State.enabled]

theorem State.signals_of_disabled {s : State} (h : s.enabled = false) (i : Station) : s.signals i = Signals.dark := by
  simp [State.signals, h]

theorem State.signals_of_no_pattern {s : State} {i : Station} (h : s.enabled = true) (hp : s.channels[i].pattern = none) :
    s.signals i = s.background i := by
  simp only [State.signals, h, if_true, hp]

theorem State.signals_of_pattern {s : State} {i : Station} {p : Pattern} (h : s.enabled = true) (hp : s.channels[i].pattern = some p) :
    s.signals i = p.signals (s.background i) := by
  simp only [State.signals, h, if_true, hp]

theorem State.background_eq (s : State) (i : Station) :
    s.background i
      = if s.mode i = .outOfService then { Signals.dark with red := true }
        else if s.sessions[i].state = .idle then Signals.dark else { Signals.dark with amber := true } := by
  simp only [State.background, State.outOfService, beq_iff_eq]
  cases s.sessions[i].state <;> rfl

/-- The intervals in which an outcome's beeper sounds (R22). -/
def OutcomeKind.beeps : OutcomeKind → List Nat
  | .grant | .ack | .staffOk | .closed => [0]
  | .refusal | .commandOk => [0, 2]
  | .lostCard => [0, 2, 4]
  | .returnOk | .holdTrapped => []

theorem Pattern.sounds_eq (p : Pattern) : p.sounds = decide (p.interval ∈ p.outcome.beeps) := by
  rw [Bool.eq_iff_iff]
  simp only [Pattern.sounds, Pattern.beeping, Bool.and_eq_true, bne_iff_ne, decide_eq_true_eq, beq_iff_eq]
  cases p.outcome <;> simp [OutcomeKind.intervals, OutcomeKind.beeps] <;> omega

/-! ### How a pattern moves on (R22) -/

theorem OutcomeKind.endsWithBeep_iff (o : OutcomeKind) : o.endsWithBeep = true ↔ o = .ack ∨ o = .closed := by
  cases o <;> simp [OutcomeKind.endsWithBeep]

theorem exec_outcomePatternTimer_of_pattern {s : State} {i : Station} {p : Pattern} (hrun : s.running = true)
    (hp : s.channels[i].pattern = some p) :
    exec (.outcomePatternTimer i) s = .next (settle s (s.setPattern i p.next)) := by
  rw [exec_outcomePatternTimer, hrun, hp]
  rfl

theorem exec_outcomePatternEnd_of_pattern {s : State} {i : Station} {p : Pattern} (hrun : s.running = true)
    (hp : s.channels[i].pattern = some p) :
    exec (.outcomePatternEnd i) s = .next (settle s (s.setPattern i p.timedOut)) := by
  rw [exec_outcomePatternEnd, hrun, hp]
  rfl

theorem Pattern.next_of_over {p : Pattern} (h : p.outcome.intervals ≤ p.interval) : p.next = some p := by
  simp [Pattern.next, h]

/-- The last interval of a pattern that ends with its beep, or whose lamp part is over (R22). -/
theorem Pattern.next_of_last {p : Pattern} (h : p.interval + 1 = p.outcome.intervals)
    (hend : p.lit = false ∨ p.outcome.endsWithBeep = true) : p.next = none := by
  have hgoes : ¬p.outcome.intervals ≤ p.interval := by omega
  have hlast : (p.outcome.endsWithBeep || !p.lit) = true := by simpa [or_comm] using hend
  simp [Pattern.next, hgoes, hlast, h]

theorem Pattern.next_of_more {p : Pattern}
    (h : p.interval + 1 < p.outcome.intervals
      ∨ p.interval + 1 = p.outcome.intervals ∧ p.lit = true ∧ p.outcome.endsWithBeep = false) :
    p.next = some { p with interval := p.interval + 1 } := by
  have hgoes : ¬p.outcome.intervals ≤ p.interval := by omega
  obtain h | ⟨-, hlit, hbeep⟩ := h
  · simp [Pattern.next, hgoes, Nat.not_le.mpr h]
  · simp [Pattern.next, hgoes, hlit, hbeep]

/-- A lamp part that ends leaves a beep sequence that is not over (R22). -/
theorem Pattern.unlit_of_beeping {p : Pattern} (h : p.outcome ≠ .holdTrapped ∧ p.interval < p.outcome.intervals) :
    p.unlit = some { p with lit := false } := by
  simp [Pattern.unlit, Pattern.beeping, h]

theorem Pattern.unlit_of_silent {p : Pattern} (h : p.outcome = .holdTrapped ∨ p.outcome.intervals ≤ p.interval) : p.unlit = none := by
  have hsilent : p.beeping = false := by simpa [Pattern.beeping, Nat.not_lt, or_iff_not_imp_left] using h
  simp [Pattern.unlit, hsilent]

theorem Pattern.timedOut_of_lostCard {p : Pattern} (h : p.outcome = .lostCard) : p.timedOut = some p := by
  simp [Pattern.timedOut, h]

theorem Pattern.timedOut_of_beep {p : Pattern} (h : p.outcome.endsWithBeep = true) : p.timedOut = none := by
  have hcard : p.outcome ≠ .lostCard := fun e => by simp [e, OutcomeKind.endsWithBeep] at h
  simp [Pattern.timedOut, hcard, h]

theorem Pattern.timedOut_of_lamps {p : Pattern} (hcard : p.outcome ≠ .lostCard) (hbeep : p.outcome.endsWithBeep = false) :
    p.timedOut = p.unlit := by
  simp [Pattern.timedOut, hcard, hbeep]

/-- Settles O11: the signals by the outcome, and each command by what it makes of the running pattern. -/
theorem patternsAdvanceAndEnd : Obligations.PatternsAdvanceAndEnd := by
  constructor
  · intro s i dark green red amber shows
    refine ⟨fun hoff => ?_, fun hrun hphase => ?_⟩
    · have hdisabled : s.enabled = false := by
        rw [Bool.eq_false_iff, ne_eq, State.enabled_iff]
        rintro ⟨hrun, hphase⟩
        exact hoff.elim (by simp [hrun]) (· hphase)
      exact State.signals_of_disabled hdisabled i
    · intro background
      have henabled := (State.enabled_iff s).mpr ⟨hrun, hphase⟩
      have hback : s.background i = { green := background.1, red := background.2.1, amber := background.2.2, beeper := false } := by
        rw [State.background_eq]
        simp only [background]
        split
        · rfl
        · split <;> rfl
      refine ⟨fun hp => ?_, fun p hp => ?_⟩
      · simp only [shows]
        rw [State.signals_of_no_pattern henabled hp]
        exact hback
      · intro lamps beeps
        have hlamps : p.lamps (s.background i) = { green := lamps.1, red := lamps.2.1, amber := lamps.2.2, beeper := false } := by
          simp only [Pattern.lamps, hback, lamps]
          cases p.outcome with
          | holdTrapped => by_cases h : p.interval % 2 = 0 <;> simp [h, amber, dark, Signals.dark]
          | _ => rfl
        have hsounds : p.sounds = decide (p.interval ∈ beeps) := Pattern.sounds_eq p
        simp only [shows]
        rw [State.signals_of_pattern henabled hp]
        cases hlit : p.lit with
        | true => simp [Pattern.signals, hlit, hlamps, hsounds]
        | false => simp [Pattern.signals, hlit, hback, hsounds]
  · intro s i p hrun hp count becomes withBeep
    have hbeep : p.outcome.endsWithBeep = true ↔ withBeep := OutcomeKind.endsWithBeep_iff p.outcome
    have hnobeep : ¬withBeep → p.outcome.endsWithBeep = false := fun h => Bool.eq_false_iff.mpr fun e => h (hbeep.mp e)
    have htimer := exec_outcomePatternTimer_of_pattern hrun hp
    have hend := exec_outcomePatternEnd_of_pattern hrun hp
    refine ⟨fun h => ?_, fun ⟨h, hlast⟩ => ?_, fun h => ?_, fun h => ?_, fun h => ?_, fun hcard hb h => ?_, fun hcard hb htrap h => ?_⟩
    · rw [htimer, Pattern.next_of_more]
      · rfl
      · exact h.imp_right fun ⟨hl, hlit, hb⟩ => ⟨hl, hlit, hnobeep hb⟩
    · rw [htimer, Pattern.next_of_last h (hlast.imp_right hbeep.mpr)]
      rfl
    · rw [htimer, Pattern.next_of_over h]
      rfl
    · rw [hend, Pattern.timedOut_of_lostCard h]
      rfl
    · rw [hend, Pattern.timedOut_of_beep (hbeep.mpr h)]
      rfl
    · rw [hend, Pattern.timedOut_of_lamps hcard (hnobeep hb), Pattern.unlit_of_silent h]
      rfl
    · rw [hend, Pattern.timedOut_of_lamps hcard (hnobeep hb), Pattern.unlit_of_beeping ⟨htrap, h⟩]
      rfl

end Sys2Proof.Machine
end

section
/-! SUPPORT. The effective mode (R24) and what its changes bring (R25). -/

namespace Sys2Proof.Machine

theorem exec_selectorChange (i : Station) (level : SelectorLevel) (s : State) :
    exec (.selectorChange i level) s
      = finish s (if s.running then (s.selectorPin i level).selectorMoved i level else s.selectorPin i level) := rfl

/-! ### The effective mode -/

section
variable {s : State} {i : Station}

theorem State.mode_of_configured_out (h : s.config.stations[i].mode = .outOfService) : s.mode i = .outOfService := by
  simp only [State.mode, h]

theorem State.mode_of_selector_disabled (h : s.config.stations[i].selectorEnabled = false) : s.mode i = s.config.stations[i].mode := by
  simp only [State.mode, h, Bool.false_eq_true, if_false]
  cases s.config.stations[i].mode <;> rfl

theorem State.mode_of_selector_loan (hmode : s.config.stations[i].mode ≠ .outOfService)
    (h : s.config.stations[i].selectorEnabled = true) (hs : s.levels.selector[i] = .loan) : s.mode i = .loan := by
  unfold State.mode
  split
  · next hm => exact absurd hm hmode
  · simp only [h, if_true, hs]

theorem State.mode_of_selector_returns (hmode : s.config.stations[i].mode ≠ .outOfService)
    (h : s.config.stations[i].selectorEnabled = true) (hs : s.levels.selector[i] = .returns) : s.mode i = .returns := by
  unfold State.mode
  split
  · next hm => exact absurd hm hmode
  · simp only [h, if_true, hs]

theorem State.mode_eq_out_iff : s.mode i = .outOfService ↔ s.config.stations[i].mode = .outOfService := by
  refine ⟨fun h => ?_, State.mode_of_configured_out⟩
  by_contra hmode
  cases he : s.config.stations[i].selectorEnabled with
  | false => exact hmode ((State.mode_of_selector_disabled he).symm.trans h)
  | true =>
    cases hs : s.levels.selector[i] with
    | loan => exact absurd ((State.mode_of_selector_loan hmode he hs).symm.trans h) (by decide)
    | returns => exact absurd ((State.mode_of_selector_returns hmode he hs).symm.trans h) (by decide)

/-! ### A change of mode -/

theorem State.modeChanged_of_same {before : Mode} (h : s.mode i = before) : s.modeChanged i before = s := if_pos h

theorem State.discardScans_of_mode (h : s.mode i ≠ .outOfService) : s.discardScans i = s :=
  State.discardScans_of_serving fun ⟨hout, _⟩ => h hout

/-- A close asked for from outside leaves the configuration and the levels, and so every effective mode. -/
theorem State.closeFromOutside_mode : (s.closeFromOutside i).mode i = s.mode i :=
  State.mode_congr (by rw [State.closeFromOutside_config]) (State.closeFromOutside_levels s i) i

/-- A station whose mode changes and that goes on serving closes an OPEN session and tests its hold line (R25). -/
theorem State.modeChanged_of_serving {before : Mode} (h : s.mode i ≠ before) (hserving : s.mode i ≠ .outOfService) :
    s.modeChanged i before = (if s.sessions[i].state = .open_ then s.closeFromOutside i else s).onChannel i id := by
  have hout : ¬s.outOfService i = true := by simpa [State.outOfService] using hserving
  unfold State.modeChanged
  rw [if_neg h, if_neg hout]
  dsimp only
  split
  · rw [State.discardScans_of_mode (by rwa [State.closeFromOutside_mode])]
  · rw [State.discardScans_of_mode hserving]

theorem State.closeFromOutside_of_inFlight (h : s.inFlight i = true) :
    s.closeFromOutside i = s.onSession i fun x => { x with closePending := true } := if_pos h

theorem State.closeFromOutside_of_idle (h : s.inFlight i = false) : s.closeFromOutside i = s.beginClose i (some .closed) :=
  if_neg (by simp [h])

end

/-- Settles O12: a selector never takes a station into or out of OUT_OF_SERVICE, so a change of mode it brings is one of a serving
station. -/
theorem selectorActsThroughMode : Obligations.SelectorActsThroughMode := by
  refine ⟨fun s i => ⟨State.mode_of_configured_out, fun _ => State.mode_of_selector_disabled, fun hmode he => ?_⟩, ?_⟩
  · cases hs : s.levels.selector[i] with
    | loan => exact State.mode_of_selector_loan hmode he hs
    | returns => exact State.mode_of_selector_returns hmode he hs
  intro s i level hrun moved result
  have hresult : result = .next (settle s (moved.modeChanged i (s.mode i))) := by
    simp only [result]
    rw [exec_selectorChange, if_pos hrun]
    rfl
  have hserving : moved.mode i ≠ s.mode i → moved.mode i ≠ .outOfService := fun hne hout => by
    have hconfigured := State.mode_eq_out_iff.mp hout
    exact hne (hout.trans (State.mode_of_configured_out (s := s) hconfigured).symm)
  refine ⟨fun hsame => ?_, fun hne hclosed => ?_, fun hne hopen hflight => ?_, fun hne hopen hflight => ?_⟩
  · rw [hresult, State.modeChanged_of_same hsame]
  · rw [hresult, State.modeChanged_of_serving hne (hserving hne), if_neg hclosed]
  · rw [hresult, State.modeChanged_of_serving hne (hserving hne), if_pos hopen, State.closeFromOutside_of_inFlight (s := moved) hflight]
  · rw [hresult, State.modeChanged_of_serving hne (hserving hne), if_pos hopen, State.closeFromOutside_of_idle (s := moved) hflight]

end Sys2Proof.Machine
end

section
/-! SUPPORT. A grant of the arbiter (R28 to R35, R41, R42): the take of the head scan, what is sent to the engine, and the command cards. -/

namespace Sys2Proof.Machine

open Config

theorem exec_arbiterGrant (s : State) : exec .arbiterGrant s = finish s s.grant := rfl

/-! ### The take (R22, R29, R34, R35) -/

/-- What a take leaves of a pattern: the lamps of a LOST_CARD pattern end, its beeps sound on (R22). -/
theorem Pattern.take_eq (p : Pattern) :
    (if p.outcome = .lostCard then p.unlit else some p)
      = if p.outcome ≠ .lostCard then some p else if p.interval < 5 then some { p with lit := false } else none := by
  by_cases h : p.outcome = .lostCard
  · simp [h, Pattern.unlit, Pattern.beeping, OutcomeKind.intervals]
  · simp [h]

section
variable {s : State} {i : Station} {scan : ScanRecord}

theorem State.takeScan_eq {rest : List ScanRecord} (hq : s.channels[i].queue = scan :: rest) :
    s.takeScan i scan
      = (s.onChannel i fun ch => { ch with
          queue := rest,
          pattern := ch.pattern.bind fun p =>
            if p.outcome ≠ .lostCard then some p else if p.interval < 5 then some { p with lit := false } else none }).onSession i
          fun y => { y with lastRefusal := if scan.kind = .staff then y.lastRefusal else none, idleTimer := false } := by
  unfold State.takeScan
  dsimp only
  congr 1
  refine State.onChannel_congr ?_
  simp only [hq, List.tail_cons, Pattern.take_eq]

/-- The station's session after a take: only its last refusal and its idle timer have moved. -/
theorem State.takeScan_session (s : State) (i : Station) (scan : ScanRecord) :
    (s.takeScan i scan).sessions[i]
      = { s.sessions[i] with lastRefusal := if scan.kind = .staff then s.sessions[i].lastRefusal else none, idleTimer := false } := by
  simp [State.takeScan]

/-- A taken scan with its session context at the engine, and the turn asked for (R29, R48). -/
theorem State.sendToEngine_takeScan (s : State) (i : Station) (scan : ScanRecord) (task : Task) (cls : RequestClass) :
    (s.takeScan i scan).sendToEngine i scan task cls
      = { s.takeScan i scan with
          engine := { s.engine with
            phase := .awaitingTurn, verdict := none,
            decision := some { station := i, scan := scan, task := task, sessionState := s.sessions[i].state,
                               card := s.sessions[i].card, guest := s.sessions[i].guest,
                               lastRefusal := if scan.kind = .staff then s.sessions[i].lastRefusal else none, requestClass := cls } },
          journal := { s.journal with requests := s.journal.requests ++ [.engine] } } := by
  simp only [State.sendToEngine, State.takeScan_session, State.takeScan_engine, State.takeScan_journal, State.ask]

/-! ### Command cards (R41, R42) -/

theorem commandLevel_eq (n : Nat) : commandLevel n = if 1 ≤ n ∧ n ≤ 8 then some (if n = 8 then 2 else 1) else none := by
  unfold commandLevel
  split
  case h_9 =>
    rw [if_neg]
    grind
  all_goals rfl

/-- A command card is obeyed by a window of its level (R41). -/
theorem Session.obeys_iff (x : Session) (n : Nat) :
    x.obeys n = true ↔ 1 ≤ n ∧ n ≤ 8 ∧ ∃ w, x.window = some w ∧ (if n = 8 then 2 else 1) ≤ w.level := by
  rw [Session.obeys, commandLevel_eq, ← and_assoc]
  by_cases hn : 1 ≤ n ∧ n ≤ 8
  · cases x.window <;> simp [hn]
  · cases x.window <;> simp only [hn, if_false, false_and, Bool.false_eq_true]

theorem SlipUnit.reprint_ok_iff (u : SlipUnit) (c : ConfigRecord) (paperOut ready : Bool) :
    (u.reprint c paperOut ready).1 = .ok ↔ u.lastPrinted ≠ none ∧ u.queue.length < 4 := by
  unfold SlipUnit.reprint
  split
  · next h => simp [h]
  · next h =>
    split
    · next hfull => simpa [h, slipQueueDepth] using hfull
    · next hroom => simpa [h, slipQueueDepth] using hroom

theorem SlipUnit.resume_isSome_iff (u : SlipUnit) (c : ConfigRecord) (paperOut ready : Bool) :
    (u.resume c paperOut ready).isSome = true ↔ u.port = .held ∨ u.port = .stopping := by
  unfold SlipUnit.resume
  cases u.port <;> simp

/-- The REPRINT card asks as Printer Control does, and shows whether it was answered OK (R42, R170). -/
theorem State.command_reprint (s : State) (i : Station) :
    s.command i 5
      = State.display { s with slips := (s.slips.reprint s.config s.levels.paperOut s.ready).2 } i
          (if (s.slips.reprint s.config s.levels.paperOut s.ready).1 = .ok then .commandOk else .refusal) := rfl

theorem State.resumePrinter_eq (s : State) :
    s.resumePrinter
      = ((s.slips.resume s.config s.levels.paperOut s.ready).isSome,
          { s with slips := (s.slips.resume s.config s.levels.paperOut s.ready).getD s.slips }) := by
  unfold State.resumePrinter
  cases s.slips.resume s.config s.levels.paperOut s.ready <;> rfl

/-- The PRINTER_RESUME card asks as Printer Control does, and shows whether it was answered OK (R42, R168). -/
theorem State.command_resume (s : State) (i : Station) :
    s.command i 6
      = State.display { s with slips := (s.slips.resume s.config s.levels.paperOut s.ready).getD s.slips } i
          (if (s.slips.resume s.config s.levels.paperOut s.ready).isSome then .commandOk else .refusal) := by
  simp only [State.command, State.resumePrinter_eq]

/-- An obeyed command card closes its window before it acts (R41). -/
theorem State.commandCard_of_obeyed {n : Nat} (h : s.sessions[i].obeys n = true) :
    s.commandCard i n = (s.onSession i fun x => { x with window := none }).command i n := if_pos h

theorem State.commandCard_of_refused {n : Nat} (h : ¬s.sessions[i].obeys n = true) : s.commandCard i n = s.display i .refusal := if_neg h

/-! ### A scan granted in IDLE (R30) and in OPEN (R33) -/

theorem State.grantOpen_item (hk : scan.kind = .item) :
    s.grantOpen i scan = (s.takeScan i scan).sendToEngine i scan .loanItem .loanClass := by
  simp only [State.grantOpen, hk]

theorem State.grantOpen_own_card (hk : scan.kind = .borrower) (h : scan.ident = s.sessions[i].card) :
    s.grantOpen i scan = (s.takeScan i scan).beginClose i (some .closed) := by
  simp only [State.grantOpen, hk, if_pos h]

theorem State.grantOpen_other_card (hk : scan.kind = .borrower) (h : scan.ident ≠ s.sessions[i].card) :
    s.grantOpen i scan = s.beginClose i (some .closed) := by
  simp only [State.grantOpen, hk, if_neg h]

theorem State.grantOpen_staff (hk : scan.kind = .staff) :
    s.grantOpen i scan
      = (s.takeScan i scan).sendToEngine i scan .staffCard
          (if s.sessions[i].lastRefusal.isSome then .loanClass else .returnClass) := by
  simp only [State.grantOpen, hk]

theorem State.grantOpen_command (hk : scan.kind = .command) :
    s.grantOpen i scan = ((s.takeScan i scan).commandCard i scan.ident).restartIdle i := by
  simp only [State.grantOpen, hk]

theorem State.grantOpen_bad (hk : scan.kind = .unreadable ∨ scan.kind = .badCheck) :
    s.grantOpen i scan = (s.takeScan i scan).sendToEngine i scan .badScan .returnClass := by
  obtain hk | hk := hk <;> simp only [State.grantOpen, hk]

theorem State.grantIdle_card_loan (hk : scan.kind = .borrower) (hm : s.mode i = .loan) :
    s.grantIdle i scan = (s.takeScan i scan).sendToEngine i scan .cardLookup .loanClass := by
  simp only [State.grantIdle, hk, hm]

theorem State.grantIdle_card_mixed (hk : scan.kind = .borrower) (hm : s.mode i = .mixed) :
    s.grantIdle i scan = (s.takeScan i scan).sendToEngine i scan .cardLookup .returnClass := by
  simp only [State.grantIdle, hk, hm]

theorem State.grantIdle_card_returns (hk : scan.kind = .borrower) (hm : s.mode i = .returns) :
    s.grantIdle i scan = (s.takeScan i scan).display i .ack := by
  simp only [State.grantIdle, hk, hm]

theorem State.grantIdle_item_loan (hk : scan.kind = .item) (hm : s.mode i = .loan) :
    s.grantIdle i scan = (s.takeScan i scan).sendToEngine i scan .noBorrower .returnClass := by
  simp only [State.grantIdle, hk, hm]

theorem State.grantIdle_item_return (hk : scan.kind = .item) (hm : s.mode i = .returns ∨ s.mode i = .mixed) :
    s.grantIdle i scan = (s.takeScan i scan).sendToEngine i scan .returnItem .returnClass := by
  obtain hm | hm := hm <;> simp only [State.grantIdle, hk, hm]

theorem State.grantIdle_staff (hk : scan.kind = .staff) :
    s.grantIdle i scan = (s.takeScan i scan).sendToEngine i scan .staffCard .returnClass := by
  simp only [State.grantIdle, hk]

theorem State.grantIdle_command (hk : scan.kind = .command) :
    s.grantIdle i scan = (s.takeScan i scan).commandCard i scan.ident := by
  simp only [State.grantIdle, hk]

theorem State.grantIdle_bad (hk : scan.kind = .unreadable ∨ scan.kind = .badCheck) :
    s.grantIdle i scan = (s.takeScan i scan).sendToEngine i scan .badScan .returnClass := by
  obtain hk | hk := hk <;> simp only [State.grantIdle, hk]

/-! ### The grant (R28) -/

/-- The arbiter grants this scan: the engine is FREE, no replay runs, and the scan is the head of the next station's queue (R28). -/
def State.Grants (s : State) (i : Station) (scan : ScanRecord) : Prop :=
  s.life = .on ∧ s.engine.phase = .free ∧ s.journal.writer ≠ .replaying ∧ s.nextStation = some i
    ∧ s.channels[i].queue.head? = some scan

theorem State.mayGrant_of_grants (h : s.Grants i scan) : s.mayGrant = true := by
  obtain ⟨hlife, hfree, hreplay, -⟩ := h
  simp [State.mayGrant, hlife, hfree, hreplay]

theorem exec_arbiterGrant_idle (h : s.Grants i scan) (hx : s.sessions[i].state = .idle) :
    exec .arbiterGrant s = .next (settle s (State.grantIdle { s with lastGranted := i } i scan)) := by
  have ⟨_, _, _, hnext, hhead⟩ := h
  obtain ⟨rest, hq⟩ := List.head?_eq_some_iff.mp hhead
  rw [exec_arbiterGrant, finish_next]
  simp only [State.grant, State.mayGrant_of_grants h, if_true, hnext, hq, hx]

theorem exec_arbiterGrant_open (h : s.Grants i scan) (hx : s.sessions[i].state = .open_) :
    exec .arbiterGrant s = .next (settle s (State.grantOpen { s with lastGranted := i } i scan)) := by
  have ⟨_, _, _, hnext, hhead⟩ := h
  obtain ⟨rest, hq⟩ := List.head?_eq_some_iff.mp hhead
  rw [exec_arbiterGrant, finish_next]
  simp only [State.grant, State.mayGrant_of_grants h, if_true, hnext, hq, hx]

/-- A command card is settled at its take, after which the idle timer of an OPEN session starts again (R35, R41). -/
theorem exec_arbiterGrant_command (h : s.Grants i scan) (hx : s.sessions[i].state ≠ .closing) (hk : scan.kind = .command) :
    exec .arbiterGrant s
      = .next (settle s
          (if s.sessions[i].state = .open_ then
            ((State.takeScan { s with lastGranted := i } i scan).commandCard i scan.ident).restartIdle i
          else (State.takeScan { s with lastGranted := i } i scan).commandCard i scan.ident)) := by
  cases hstate : s.sessions[i].state with
  | idle => rw [exec_arbiterGrant_idle h hstate, State.grantIdle_command hk, if_neg (by decide)]
  | open_ => rw [exec_arbiterGrant_open h hstate, State.grantOpen_command hk, if_pos rfl]
  | closing => exact absurd hstate hx

end

/-- Settles O15: by the scan's kind and the session's state, and for a command card by its number. -/
theorem grantTakesHeadScan : Obligations.GrantTakesHeadScan := by
  intro s i scan rest hlife hfree hreplay hnext hq granted x afterTake taken sent result
  have htaken : granted.takeScan i scan = taken := State.takeScan_eq hq
  have hsent : ∀ task cls, taken.sendToEngine i scan task cls = sent task cls := fun task cls => by
    rw [← htaken, State.sendToEngine_takeScan, htaken]
  have hgrants : s.Grants i scan := ⟨hlife, hfree, hreplay, hnext, by rw [hq, List.head?_cons]⟩
  have hidle : x.state = .idle → result = .next (settle s (granted.grantIdle i scan)) := exec_arbiterGrant_idle hgrants
  have hopen : x.state = .open_ → result = .next (settle s (granted.grantOpen i scan)) := exec_arbiterGrant_open hgrants
  refine ⟨fun hx hk => ?_, fun hx hk hother => ?_, fun hx hk hown => ?_, fun hx hk => ?_, fun hx hk hm => ?_, fun hx hk hm => ?_,
    fun hx hk hm => ?_, fun hx hk hm => ?_, fun hx hk hm => ?_, fun hx hk => ?_, fun hx hk => ?_, ?_⟩
  · rw [hopen hx, State.grantOpen_item hk, htaken, hsent]
  · rw [hopen hx, State.grantOpen_other_card (s := granted) hk hother]
  · rw [hopen hx, State.grantOpen_own_card (s := granted) hk hown, htaken]
  · rw [hopen hx, State.grantOpen_staff hk, htaken, hsent]
  · rw [hidle hx, State.grantIdle_card_loan (s := granted) hk hm, htaken, hsent]
  · rw [hidle hx, State.grantIdle_card_mixed (s := granted) hk hm, htaken, hsent]
  · rw [hidle hx, State.grantIdle_card_returns (s := granted) hk hm, htaken]
  · rw [hidle hx, State.grantIdle_item_loan (s := granted) hk hm, htaken, hsent]
  · rw [hidle hx, State.grantIdle_item_return (s := granted) hk hm, htaken, hsent]
  · rw [hidle hx, State.grantIdle_staff hk, htaken, hsent]
  · cases hstate : x.state with
    | idle => rw [hidle hstate, State.grantIdle_bad hk, htaken, hsent]
    | open_ => rw [hopen hstate, State.grantOpen_bad hk, htaken, hsent]
    | closing => exact absurd hstate hx
  · intro hx hk idleAgain ends number level obeyed acts ok outcome
    have hends : ∀ t, taken.commandCard i number = t → ends t := by
      rintro t rfl
      simp only [ends, idleAgain, ← htaken]
      exact exec_arbiterGrant_command hgrants hx hk
    have hsession : taken.sessions[i] = { x with lastRefusal := if scan.kind = .staff then x.lastRefusal else none, idleTimer := false } := by
      rw [← htaken]
      exact State.takeScan_session granted i scan
    have hobeyed : taken.sessions[i].obeys number = true ↔ obeyed := by
      rw [hsession]
      exact Session.obeys_iff _ number
    have hstate : acts.sessions[i].state = x.state := by
      have hkept : acts.sessions[i].state = taken.sessions[i].state := by
        simp only [acts, State.onSession_sessions, Fin.getElem_fin, Vector.getElem_set_self]
      rw [hkept, hsession]
    refine ⟨fun h => hends _ (State.commandCard_of_refused fun e => h (hobeyed.mp e)), fun h => ?_⟩
    have hacts : ∀ n t, number = n → acts.command i n = t → ends t := by
      rintro n t rfl rfl
      exact hends _ (State.commandCard_of_obeyed (hobeyed.mpr h))
    refine ⟨fun hn hopened => hacts 1 _ hn (if_pos (hstate.trans hopened)),
      fun hn hidled => hacts 1 _ hn (if_neg (by rw [hstate, hidled]; decide)),
      fun hn => hacts 2 _ hn rfl, fun hn => hacts 3 _ hn rfl, fun hn => hacts 4 _ hn rfl, fun hn => ⟨fun hok => ?_, fun hno => ?_⟩,
      fun hn => ⟨fun hok => ?_, fun hno => ?_⟩, fun hn => hacts 7 _ hn rfl, fun hn => hacts 8 _ hn rfl⟩
    · exact hacts 5 _ hn
        ((State.command_reprint acts i).trans (congrArg _ (if_pos ((SlipUnit.reprint_ok_iff acts.slips _ _ _).mpr hok))))
    · exact hacts 5 _ hn
        ((State.command_reprint acts i).trans (congrArg _ (if_neg (mt (SlipUnit.reprint_ok_iff acts.slips _ _ _).mp hno))))
    · exact hacts 6 _ hn
        ((State.command_resume acts i).trans (congrArg _ (if_pos ((SlipUnit.resume_isSome_iff acts.slips _ _ _).mpr hok))))
    · exact hacts 6 _ hn
        ((State.command_resume acts i).trans (congrArg _ (if_neg (mt (SlipUnit.resume_isSome_iff acts.slips _ _ _).mp hno))))

end Sys2Proof.Machine
end

section
/-! SUPPORT. The printer port's inputs and its accepted byte (R161 to R166): the port's test and what follows a byte, case by case. -/

namespace Sys2Proof.Machine

theorem exec_paperOutChange (out : Bool) (s : State) :
    exec (.paperOutChange out) s = finish s (if s.running then s.paperMoved out else { s with pins := { s.pins with paperOut := out } }) := rfl

theorem exec_maintenanceChange (asserted : Bool) (s : State) :
    exec (.maintenanceChange asserted) s
      = finish s (if s.running then s.maintenanceMoved asserted else { s with pins := { s.pins with maintenance := asserted } }) := rfl

theorem exec_printerReadyChange (ready : Bool) (s : State) :
    exec (.printerReadyChange ready) s = finish s (if s.running then (s.readyPin ready).portTest else s.readyPin ready) := rfl

theorem exec_printerByteAccepted (s : State) : exec .printerByteAccepted s = finish s (if s.running then s.byteAccepted else s) := rfl

theorem exec_printerStallExpiry (s : State) :
    exec .printerStallExpiry s
      = finish s (if s.running && s.slips.stallTimerRuns s.ready then { s with slips := { s.slips with stalled := true } } else s) := rfl

section
variable {u : SlipUnit}

/-! ### The test before a byte (R163) -/

/-- The port tests for a byte of the current slip that waits at mark. -/
theorem SlipUnit.test_of_waiting (hcurrent : u.port.hasCurrent = true) (hline : u.line = .mark) (hpos : u.position < u.buffer.length)
    (rate : Nat) (paperOut ready : Bool) :
    u.test rate paperOut ready
      = if !paperOut && ready then
          { u with line := .sending (u.buffer.getD u.position 0) rate true, port := if u.port = .paused then .printing else u.port }
        else { u with port := if u.port = .printing then .paused else u.port } := by
  simp only [SlipUnit.test, hcurrent, hline, hpos, beq_self_eq_true, decide_true, Bool.and_self, if_true]

/-- The stall timer runs while a byte waits and ready is deasserted (R166). -/
theorem SlipUnit.stallTimerRuns_of_waiting (hcurrent : u.port.hasCurrent = true) (hline : u.line = .mark)
    (hpos : u.position < u.buffer.length) {ready : Bool} (hready : ready = false) : u.stallTimerRuns ready = true := by
  simp [SlipUnit.stallTimerRuns, SlipUnit.waiting, hcurrent, hline, hpos, hready]

/-! ### An accepted byte (R163, R164, R169) -/

/-- The slip unit once the line has sent a byte of the current slip. -/
def SlipUnit.advanced (u : SlipUnit) : SlipUnit := { u with line := .mark, stalled := false, position := u.position + 1 }

variable {b : Byte} {rate : Nat} (c : ConfigRecord) (paperOut ready : Bool)

theorem SlipUnit.accepted_of_orphan (hline : u.line = .sending b rate false) :
    u.accepted c paperOut ready = SlipUnit.test { u with line := .mark, stalled := false } c.printerRate paperOut ready := by
  simp only [SlipUnit.accepted, hline]

theorem SlipUnit.accepted_of_more (hline : u.line = .sending b rate true) (h : u.position + 1 < u.buffer.length) :
    u.accepted c paperOut ready = u.advanced.test c.printerRate paperOut ready := by
  simp only [SlipUnit.accepted, hline, h, if_true, SlipUnit.advanced]

theorem SlipUnit.accepted_of_last (hline : u.line = .sending b rate true) (h : u.buffer.length ≤ u.position + 1) :
    u.accepted c paperOut ready = u.advanced.leave c paperOut ready := by
  simp only [SlipUnit.accepted, hline, Nat.not_lt.mpr h, if_false, SlipUnit.advanced]

/-! ### The current slip leaves (R162, R164) -/

/-- The slip unit once its current slip has left as the last printed one. -/
def SlipUnit.printed (u : SlipUnit) (slip : Slip) (rest : List Slip) : SlipUnit :=
  { u with queue := rest, lastPrinted := some slip, buffer := [], position := 0 }

variable {slip : Slip} {rest : List Slip}

theorem SlipUnit.leave_of_stopping (hq : u.queue = slip :: rest) (hport : u.port = .stopping) :
    u.leave c paperOut ready = { u.printed slip rest with port := .held } := by
  simp [SlipUnit.leave, SlipUnit.printed, hq, hport]

theorem SlipUnit.leave_of_alone (hq : u.queue = [slip]) (hport : u.port ≠ .stopping) :
    u.leave c paperOut ready = { u.printed slip [] with port := .idle } := by
  simp [SlipUnit.leave, SlipUnit.printed, SlipUnit.begin_, hq, hport]

theorem SlipUnit.leave_of_next {next : Slip} {more : List Slip} (hq : u.queue = slip :: next :: more) (hport : u.port ≠ .stopping) :
    u.leave c paperOut ready
      = SlipUnit.test { u.printed slip (next :: more) with port := .printing, buffer := render c next }
          c.printerRate paperOut ready := by
  simp [SlipUnit.leave, SlipUnit.printed, SlipUnit.begin_, hq, hport]

end

theorem exec_printerByteAccepted_of_running {s : State} (hrun : s.running = true) :
    exec .printerByteAccepted s
      = .next (settle s { s with slips := s.slips.accepted s.config s.levels.paperOut s.ready }) := by
  rw [exec_printerByteAccepted, if_pos hrun]
  rfl

/-- Settles O31: the inputs by the port's test, and an accepted byte by what it is the last of. -/
theorem printerTestsItsInputs : Obligations.PrinterTestsItsInputs := by
  refine ⟨⟨?_, ?_, ?_, ?_⟩, ?_⟩
  · intro s out hrun moved
    rw [exec_paperOutChange, if_pos hrun]
    rfl
  · intro s asserted hrun
    rw [exec_maintenanceChange, if_pos hrun]
    rfl
  · intro s ready hrun
    rw [exec_printerReadyChange, if_pos hrun]
    rfl
  · intro u rate paperOut ready hcurrent hline hpos
    rw [SlipUnit.test_of_waiting hcurrent hline hpos]
    exact ⟨fun h => if_pos (by simpa using h), fun h => if_neg (by simpa using h)⟩
  · intro s hrun u on accepted tested
    have hresult := exec_printerByteAccepted_of_running hrun
    refine ⟨fun b rate hline => ⟨fun hmore => ?_, ?_⟩, fun b rate hline => ?_, fun hcurrent hline hpos hready => ?_⟩
    · rw [hresult, SlipUnit.accepted_of_more _ _ _ hline hmore]
      rfl
    · intro hlast slip rest hq gone
      rw [hresult, SlipUnit.accepted_of_last _ _ _ hline hlast]
      refine ⟨fun hport => ?_, fun hport hrest => ?_, fun hport next more hrest => ?_⟩
      · rw [SlipUnit.leave_of_stopping (u := u.advanced) _ _ _ hq hport]
        rfl
      · subst hrest
        rw [SlipUnit.leave_of_alone (u := u.advanced) _ _ _ hq hport]
        rfl
      · subst hrest
        rw [SlipUnit.leave_of_next (u := u.advanced) _ _ _ hq hport]
        rfl
    · rw [hresult, SlipUnit.accepted_of_orphan _ _ _ hline]
    · rw [exec_printerStallExpiry, hrun, SlipUnit.stallTimerRuns_of_waiting (u := s.slips) hcurrent hline hpos hready]
      rfl

end Sys2Proof.Machine
end

section
/-! SUPPORT. Configure (R184): the requests, and the record that takes effect station by station when its store completes. -/

namespace Sys2Proof.Machine

theorem exec_configure (record : List Byte) (s : State) : exec (.configure record) s = finish s (s.takeRequest (.configure record)) := rfl

theorem exec_configureRead (s : State) : exec .configureRead s = finish s (s.takeRequest .configureRead) := rfl

theorem exec_configureStoreComplete (s : State) :
    exec .configureStoreComplete s
      = finishStore s
          (match s.running, s.configStore with
            | true, some c => s.configureDone c
            | _, _ => s) := rfl

/-! ### Line settings (R1) -/

theorem StationConfig.sameLine_iff (a b : StationConfig) :
    a.sameLine b = true ↔ a.rate = b.rate ∧ a.dataBits = b.dataBits ∧ a.parity = b.parity := by
  simp [StationConfig.sameLine, and_assoc]

theorem State.lineChanged_of_same {s : State} {old : ConfigRecord} {i : Station} (h : old.stations = s.config.stations) :
    s.lineChanged old i = s := by
  have hsame : (s.config.stations[i]).sameLine s.config.stations[i] = true := by simp [StationConfig.sameLine]
  rw [State.lineChanged, h, if_pos hsame]

@[simp] theorem State.lineChanged_config (s : State) (old : ConfigRecord) (i : Station) : (s.lineChanged old i).config = s.config := by
  unfold State.lineChanged
  split <;> rfl

@[simp] theorem State.lineChanged_life (s : State) (old : ConfigRecord) (i : Station) : (s.lineChanged old i).life = s.life := by
  unfold State.lineChanged
  split <;> rfl

/-! ### A station and its new record (R1, R24, R25) -/

@[simp] theorem State.stationStored_config (old s : State) (i : Station) : (State.stationStored old s i).config = s.config := by
  simp [State.stationStored]

@[simp] theorem State.stationStored_life (old s : State) (i : Station) : (State.stationStored old s i).life = s.life := by
  simp [State.stationStored]

/-- A station whose groups and levels are as they were meets nothing. -/
theorem State.stationStored_of_same {old s : State} (hc : s.config.stations = old.config.stations) (hl : s.levels = old.levels)
    (i : Station) : State.stationStored old s i = s := by
  rw [State.stationStored, State.lineChanged_of_same hc.symm, State.modeChanged_of_same (State.mode_congr hc hl i)]

/-! ### The whole record (R184, log 34) -/

theorem State.rateStored_eq (s : State) :
    s.rateStored = { s with link := if s.link.rateReady then s.link.applyRate s.config.linkRate else s.link } := by
  unfold State.rateStored
  split <;> rfl

theorem State.configureDone_eq (s : State) (c : ConfigRecord) :
    s.configureDone c
      = (State.stationStored s (State.stationStored s (State.stationStored s (State.stationStored s
          { s with config := c, configStore := none } 0) 1) 2) 3).rateStored := rfl

theorem State.configureDone_life (s : State) (c : ConfigRecord) : (s.configureDone c).life = s.life := by
  rw [State.configureDone_eq, State.rateStored_eq]
  simp

/-- A record that leaves every station's group as it was reaches no station. -/
theorem State.configureDone_of_same {s : State} {c : ConfigRecord} (h : c.stations = s.config.stations) :
    s.configureDone c = State.rateStored { s with config := c, configStore := none } := by
  have hsame := State.stationStored_of_same (old := s) (s := { s with config := c, configStore := none }) h rfl
  rw [State.configureDone_eq, hsame, hsame, hsame, hsame]

theorem exec_configureStoreComplete_of_on {s : State} {c : ConfigRecord} (hlife : s.life = .on) (hc : s.configStore = some c) :
    exec .configureStoreComplete s = .next (settle s (s.configureDone c)) := by
  have hrun : s.running = true := by simp [State.running, hlife]
  rw [exec_configureStoreComplete, hrun, hc]
  exact finishStore_of_not_waiting (by rw [State.configureDone_life, hlife]; decide)

/-- Settles O42: the requests as they are served, and the completion with each station's part written out. -/
theorem configureStoresRecord : Obligations.ConfigureStoresRecord := by
  intro s
  refine ⟨fun hs bytes record hfree hlength hrecord => ?_, fun hs => ?_, ?_, fun hlife record hstore hsame => ?_⟩
  · have hserve : s.serve (.configure bytes) = State.done { s with configStore := some record } := by
      simp [State.serve, State.answerConfigure, hfree, hrecord]
    rw [exec_configure, State.takeRequest_served (level := 2) rfl hs (by simpa [State.fits] using hlength), hserve]
    rfl
  · rw [exec_configureRead, finish_served (level := 2) rfl hs rfl rfl]
    rfl
  · intro hlife record hstore stored lineChanged station done
    have hline : ∀ (u : State) (i : Station), u.config = record → u.lineChanged s.config i = lineChanged u i := fun u i hu => by
      simp only [State.lineChanged, StationConfig.sameLine_iff, hu]
      rfl
    have hstation : ∀ (u : State) (i : Station), u.config = record → State.stationStored s u i = station u i := fun u i hu => by
      rw [State.stationStored, hline u i hu]
    have hconfig : ∀ (u : State) (i : Station), u.config = record → (station u i).config = record := fun u i hu => by
      rw [← hstation u i hu, State.stationStored_config, hu]
    have h0 : (station stored 0).config = record := hconfig _ _ rfl
    have h1 := hconfig _ 1 h0
    have h2 := hconfig _ 2 h1
    have h3 : done.config = record := hconfig _ 3 h2
    have hdone : s.configureDone record = done.rateStored := by
      rw [State.configureDone_eq, hstation _ 0 rfl, hstation _ 1 h0, hstation _ 2 h1, hstation _ 3 h2]
    rw [exec_configureStoreComplete_of_on hlife hstore, hdone, State.rateStored_eq, h3]
  · rw [exec_configureStoreComplete_of_on hlife hstore, State.configureDone_of_same hsame, State.rateStored_eq]

end Sys2Proof.Machine
end

section
/-! SUPPORT. The arbiter's round (R28): the stations in the order after the one granted last, and the first eligible one of them. -/

namespace Sys2Proof.Machine

/-- In a list of rising rank, the first element with a property is the one that no lower one shares it with. -/
theorem find?_eq_some_iff_of_rising {α : Type} {rank : α → Nat} {p : α → Bool} {l : List α} (hl : l.Pairwise fun a b => rank a < rank b)
    {a : α} (ha : a ∈ l) : l.find? p = some a ↔ p a = true ∧ ∀ b ∈ l, rank b < rank a → p b = false := by
  induction l with
  | nil => cases ha
  | cons c rest ih =>
    obtain ⟨hc, hrest⟩ := List.pairwise_cons.mp hl
    rw [List.find?_cons]
    obtain rfl | hin := List.mem_cons.mp ha
    · have hfirst : ∀ b ∈ a :: rest, ¬rank b < rank a := fun b hb => by
        obtain rfl | hb := List.mem_cons.mp hb
        · omega
        · exact Nat.not_lt.mpr (Nat.le_of_lt (hc b hb))
      cases hp : p a with
      | true => simpa using fun b hb hlt => absurd hlt (hfirst b (List.mem_cons_of_mem _ hb))
      | false =>
        have hnone : rest.find? p ≠ some a := fun h => by simp [List.find?_some h] at hp
        simp [hnone]
    · have hbelow := hc a hin
      cases hp : p c with
      | true =>
        have hne : c ≠ a := fun e => by simp [e] at hbelow
        simp [hne, hp, hbelow]
      | false =>
        rw [ih hrest hin]
        simp [hp]

/-- The place of a station in the order after the one granted last (R28). -/
def roundPlace (last k : Station) : Nat := (k.val + 3 - last.val) % 4

/-- The four stations, from the one after the one granted last (R28). -/
def roundOrder (last : Station) : List Station := [last + 1, last + 2, last + 3, last]

theorem roundOrder_rising : ∀ last : Station, (roundOrder last).Pairwise fun a b => roundPlace last a < roundPlace last b := by decide

theorem mem_roundOrder : ∀ last k : Station, k ∈ roundOrder last := by decide

theorem State.nextStation_eq (s : State) : s.nextStation = (roundOrder s.lastGranted).find? s.eligible := rfl

/-- Settles O14: the arbiter's order is a list of all four stations by their place in the round, and it names the first eligible one. -/
theorem arbiterGoesRound : Obligations.ArbiterGoesRound := by
  intro s
  have hall : ∀ k, k ∈ roundOrder s.lastGranted := mem_roundOrder s.lastGranted
  rw [State.nextStation_eq]
  refine ⟨fun i => ?_, ?_⟩
  · rw [find?_eq_some_iff_of_rising (roundOrder_rising s.lastGranted) (hall i)]
    exact and_congr_right fun _ => ⟨fun h k => h k (hall k), fun h k _ => h k⟩
  · simp only [List.find?_eq_none, Bool.not_eq_true, hall, forall_const]

end Sys2Proof.Machine
end

section
/-! SUPPORT. Cards looked up at a turn (R31, R37, R40): a borrower card by the first case that applies, a staff card and the override attempt it may be. -/

namespace Sys2Proof.Machine

section
variable {s : State} {d : Decision} {recorded : Bool}

/-! ### Refusals (R51, R73) -/

/-- A refusal is shown and opens nothing; it writes a record at a recorded turn, and is counted at an unrecorded one (R51). -/
theorem State.refusal_refuses (s : State) (d : Decision) (recorded : Bool) (reason : Reason) (card item : Nat) (staff : Option Nat)
    (last : RefusalEffect) (window : Option Window) :
    let v := s.refusal d recorded reason card item staff last window
    v.kind = .refused ∧ v.reason = some reason ∧ v.outcome = some .refusal ∧ v.opens = none
      ∧ v.record.isSome = recorded ∧ v.unrecorded = !recorded := by
  cases recorded <;> exact ⟨rfl, rfl, rfl, rfl, rfl, rfl⟩

/-! ### A borrower card (R31) -/

theorem State.cardInUse_iff (s : State) (i : Station) (card : Nat) :
    s.cardInUse i card = true ↔ ∃ k : Station, k ≠ i ∧ s.sessions[k].state ≠ .idle ∧ s.sessions[k].card = card := by
  have hall : ∀ k : Station, k ∈ ([0, 1, 2, 3] : List Station) := by decide
  simp [State.cardInUse, -List.any_cons, List.any_eq_true, hall, and_assoc]

theorem State.evaluate_cardLookup (h : d.task = .cardLookup) : s.evaluate d recorded = s.lookupCard d recorded := by
  simp only [State.evaluate, h]

theorem State.lookupCard_of_invalid (h : s.tables.valid = false) :
    s.lookupCard d recorded = s.refusal d recorded .tablesInvalid d.scan.ident 0 none .keep none := by
  simp [State.lookupCard, h]

theorem State.lookupCard_of_unrecorded (h : s.tables.valid = true) :
    s.lookupCard d false = s.refusal d false .journalFull d.scan.ident 0 none .keep none := by
  simp [State.lookupCard, h]

theorem State.lookupCard_of_lost {b : Borrower} (h : s.tables.valid = true)
    (hb : s.tables.liveTables.borrower? d.scan.ident = some b) (hlost : b.flags.lost = true) :
    s.lookupCard d true
      = { kind := .lostCard, outcome := some .lostCard, latch := some .lostCardPresented,
          record := some { s.recordBase .lostCard d.station.val with reason := Reason.lostCard.code, card := d.scan.ident } } := by
  simp [State.lookupCard, h, hb, hlost]

/-- A card that is not lost goes on to the cases below LOST_CARD in R31's table. -/
theorem State.lookupCard_of_not_lost (h : s.tables.valid = true)
    (hlost : ∀ b, s.tables.liveTables.borrower? d.scan.ident = some b → b.flags.lost = false) :
    s.lookupCard d true
      = if s.cardInUse d.station d.scan.ident then s.refusal d true .cardInUse d.scan.ident 0 none .keep none
        else if (s.tables.liveTables.borrower? d.scan.ident).isNone then
          if s.config.guestMode then { kind := .opened, opens := some true }
          else s.refusal d true .noRecord d.scan.ident 0 none .keep none
        else { kind := .opened, opens := some false } := by
  have hany : (s.tables.liveTables.borrower? d.scan.ident).any (fun b => b.flags.lost) = false := by
    cases hb : s.tables.liveTables.borrower? d.scan.ident with
    | none => rfl
    | some b => exact hlost b hb
  simp [State.lookupCard, h, hany]

/-! ### A staff card (R37, R40) -/

theorem State.evaluate_staffCard (h : d.task = .staffCard) : s.evaluate d recorded = s.lookupStaff d recorded := by
  simp only [State.evaluate, h]

theorem State.lookupStaff_of_unknown (h : s.tables.valid = false ∨ s.tables.liveTables.staff? d.scan.ident = none) :
    s.lookupStaff d recorded = s.refusal d recorded .unreadable d.sessionCard d.scan.ident none .keep none := by
  have hnone : (if s.tables.valid then s.tables.liveTables.staff? d.scan.ident else none) = none := by
    obtain h | h := h <;> simp [h]
  simp only [State.lookupStaff, hnone]

variable {index : Nat} {e : StaffEntry}

theorem State.lookupStaff_of_no_override (hvalid : s.tables.valid = true)
    (hstaff : s.tables.liveTables.staff? d.scan.ident = some (index, e)) (h : d.sessionState ≠ .open_ ∨ d.lastRefusal = none) :
    s.lookupStaff d recorded
      = { kind := .staffFound, outcome := some .staffOk, window := some { index := index, level := e.level } } := by
  have hnone : (if d.sessionState = .open_ then d.lastRefusal else none) = none := by
    obtain h | h := h <;> simp [h]
  simp only [State.lookupStaff, hvalid, if_true, hstaff, hnone]

/-- A staff card in an OPEN session with a last refusal is an override attempt (R40). -/
theorem State.lookupStaff_of_override {last : LastRefusal} (hvalid : s.tables.valid = true)
    (hstaff : s.tables.liveTables.staff? d.scan.ident = some (index, e)) (hopen : d.sessionState = .open_)
    (hlast : d.lastRefusal = some last) :
    s.lookupStaff d recorded
      = if !recorded then
          s.refusal d false .journalFull d.sessionCard last.item none .keep (some { index := index, level := e.level })
        else if s.config.sufficient e.level last.reason then
          s.evaluateLoan d recorded last.item (addReason last.reason last.overridden) (some index)
            (some { index := index, level := e.level })
        else
          { kind := .refused, reason := some last.reason, outcome := some .refusal,
            window := some { index := index, level := e.level } } := by
  simp only [State.lookupStaff, hvalid, if_true, hstaff, hopen, hlast]

theorem ConfigRecord.sufficient_iff (c : ConfigRecord) (level : Nat) (r : Reason) :
    c.sufficient level r = true ↔ c.level r ≠ 0 ∧ c.level r ≤ level := by
  simp [ConfigRecord.sufficient]

theorem addReason_eq (r : Reason) (l : List Reason) : addReason r l = if r ∈ l then l else l ++ [r] := by
  simp [addReason]

/-- An evaluation keeps the window it is given, whatever it yields (R38). -/
theorem State.evaluateLoan_window (s : State) (d : Decision) (recorded : Bool) (item : Nat) (overridden : List Reason)
    (staff : Option Nat) (window : Option Window) : (s.evaluateLoan d recorded item overridden staff window).window = window := by
  unfold State.evaluateLoan
  dsimp only
  split
  · rfl
  · split
    · rfl
    · split <;> rfl

/-- A found staff card opens its window, whatever else it brings (R37, R38). -/
theorem State.lookupStaff_window (hvalid : s.tables.valid = true)
    (hstaff : s.tables.liveTables.staff? d.scan.ident = some (index, e)) :
    (s.lookupStaff d recorded).window = some { index := index, level := e.level } := by
  by_cases hopen : d.sessionState = .open_
  · cases hlast : d.lastRefusal with
    | none => rw [State.lookupStaff_of_no_override hvalid hstaff (.inr hlast)]
    | some last =>
      rw [State.lookupStaff_of_override hvalid hstaff hopen hlast]
      split
      · rfl
      · split
        · exact State.evaluateLoan_window ..
        · rfl
  · rw [State.lookupStaff_of_no_override hvalid hstaff (.inl hopen)]

end

/-- Settles O17, one lookup after the other, each case by the equation of its lookup. -/
theorem cardsAreLookedUp : Obligations.CardsAreLookedUp := by
  intro s d recorded v refused t
  have hrefused : ∀ {reason card item staff last window}, v = s.refusal d recorded reason card item staff last window →
      refused reason := fun h => by
    simp only [refused, h]
    exact State.refusal_refuses ..
  constructor
  · intro htask card inUse
    have hv : v = s.lookupCard d recorded := State.evaluate_cardLookup htask
    have huse : s.cardInUse d.station card = true ↔ inUse := State.cardInUse_iff s d.station card
    refine ⟨fun h => hrefused (hv.trans (State.lookupCard_of_invalid h)), ?_, ?_⟩
    · rintro hvalid rfl
      exact hrefused (hv.trans (State.lookupCard_of_unrecorded hvalid))
    · rintro hvalid rfl
      refine ⟨fun b hb hlost => ?_, fun hlost => ?_⟩
      · rw [hv, State.lookupCard_of_lost hvalid hb hlost]
        exact ⟨rfl, rfl, rfl, rfl, _, rfl, rfl, rfl⟩
      · rw [State.lookupCard_of_not_lost hvalid hlost] at hv
        refine ⟨fun h => ?_, fun h hnone hguest => ?_, fun h hnone hguest => ?_, fun h hsome => ?_⟩
        · exact hrefused (hv.trans (if_pos (huse.mpr h)))
        · rw [if_neg (mt huse.mp h), if_pos (Option.isNone_iff_eq_none.mpr hnone), hguest] at hv
          exact hrefused hv
        · rw [if_neg (mt huse.mp h), if_pos (Option.isNone_iff_eq_none.mpr hnone), hguest] at hv
          rw [hv]
          exact ⟨rfl, rfl, rfl, rfl⟩
        · rw [if_neg (mt huse.mp h), if_neg (by simpa using Option.isSome_iff_ne_none.mp hsome)] at hv
          rw [hv]
          exact ⟨rfl, rfl, rfl, rfl⟩
  · intro htask
    have hv : v = s.lookupStaff d recorded := State.evaluate_staffCard htask
    refine ⟨fun h => hrefused (hv.trans (State.lookupStaff_of_unknown h)), fun hvalid index e hstaff => ⟨?_, fun h => ?_, ?_⟩⟩
    · rw [hv, State.lookupStaff_window hvalid hstaff]
    · rw [hv, State.lookupStaff_of_no_override hvalid hstaff h]
      exact ⟨rfl, rfl, rfl⟩
    · intro hopen last hlast
      have hsufficient := ConfigRecord.sufficient_iff s.config e.level last.reason
      rw [State.lookupStaff_of_override hvalid hstaff hopen hlast] at hv
      refine ⟨?_, ?_, ?_⟩
      · rintro rfl
        exact hrefused hv
      · rintro rfl hlow
        rw [if_neg (by decide), if_neg (by rw [hsufficient]; omega)] at hv
        rw [hv]
        exact ⟨rfl, rfl, rfl, rfl⟩
      · rintro rfl hset hlevel
        rw [if_neg (by decide), if_pos (hsufficient.mpr ⟨hset, hlevel⟩), addReason_eq] at hv
        exact hv

end Sys2Proof.Machine
end

section
/-! SUPPORT. The end of a session (R35, R38, R43 to R46): a slip offered, waiting or dropped, the close sequence, and the commands of a session's timers. -/

namespace Sys2Proof.Machine

theorem exec_idleTimerExpiry (i : Station) (s : State) :
    exec (.idleTimerExpiry i) s = finish s (if s.running && s.idleRuns i then s.beginClose i (some .closed) else s) := rfl

theorem exec_staffWindowExpiry (i : Station) (s : State) :
    exec (.staffWindowExpiry i) s = finish s (if s.running then s.onSession i fun x => { x with window := none } else s) := rfl

theorem exec_slipWaitExpiry (i : Station) (s : State) :
    exec (.slipWaitExpiry i) s
      = finish s
          (match s.running, s.sessions[i].slipWait with
            | true, some slip => s.dropWaiting i slip
            | _, _ => s) := rfl

theorem exec_slipReoffer (i : Station) (s : State) :
    exec (.slipReoffer i) s
      = finish s
          (match s.running && s.slipRoom, s.sessions[i].slipWait with
            | true, some slip => s.takeWaiting i slip
            | _, _ => s) := rfl

section
variable {s : State} {i : Station} {slip : Slip}

/-! ### A slip's end (R45, R46) -/

/-- The outcome of a close's slip and the request for its record, at a session and a journal known by name. -/
theorem State.settleSlip_eq {x : Session} {j : Journal} (hx : s.sessions[i] = x) (hj : s.journal = j) (o : SlipOutcome) :
    s.settleSlip i o
      = { s with
          sessions := s.sessions.set i { x with slipOutcome := o },
          journal := { j with requests := j.requests ++ [.close i] } } := by
  subst hx hj
  rfl

theorem State.slipSettled_loan {entries : List Granted} (h : slip.body = .loan entries) (o : SlipOutcome) :
    s.slipSettled i slip o = s.settleSlip i o := by
  simp only [State.slipSettled, h]

theorem State.slipSettled_hold {item expiry : Nat} (h : slip.body = .hold item expiry) (o : SlipOutcome) :
    s.slipSettled i slip o = s := by
  simp only [State.slipSettled, h]

/-! ### A slip offered (R43, R44, R157) -/

theorem State.slipRoom_iff (s : State) : s.slipRoom = true ↔ s.slips.queue.length < 4 := decide_eq_true_iff

theorem State.offer_of_room (h : s.slips.queue.length < 4) : s.offer i slip = (s.joinSlip slip).slipSettled i slip .queued :=
  if_pos ((State.slipRoom_iff s).mpr h)

theorem State.offer_of_no_wait (h : 4 ≤ s.slips.queue.length) (hw : s.config.slipWait = 0) :
    s.offer i slip = (s.latch .slipDropped).slipSettled i slip .dropped := by
  have hfull : ¬s.slipRoom = true := by simpa [State.slipRoom_iff] using h
  rw [State.offer, if_neg hfull, if_pos hw]

theorem State.offer_of_full (h : 4 ≤ s.slips.queue.length) (hw : s.config.slipWait ≠ 0) :
    s.offer i slip = s.onSession i fun x => { x with slipWait := some slip } := by
  have hfull : ¬s.slipRoom = true := by simpa [State.slipRoom_iff] using h
  rw [State.offer, if_neg hfull, if_neg hw]

/-! ### The close sequence (R43) -/

/-- A session frozen for its close (R43). -/
def State.frozen (s : State) (i : Station) : Session :=
  { s.sessions[i] with
    state := .closing, idleTimer := false, lastRefusal := none, closePending := false, closeTime := s.clock.stamp }

/-- The close's frozen session with its outcome shown. -/
def State.shownClosing (s : State) (i : Station) (o : OutcomeKind) : State :=
  State.display { s with sessions := s.sessions.set i (s.frozen i) } i o

@[simp] theorem State.shownClosing_session (s : State) (i : Station) (o : OutcomeKind) : (s.shownClosing i o).sessions[i] = s.frozen i := by
  simp [State.shownClosing]

@[simp] theorem State.shownClosing_journal (s : State) (i : Station) (o : OutcomeKind) : (s.shownClosing i o).journal = s.journal := by
  simp [State.shownClosing]

@[simp] theorem State.shownClosing_slips (s : State) (i : Station) (o : OutcomeKind) : (s.shownClosing i o).slips = s.slips := by
  simp [State.shownClosing]

@[simp] theorem State.shownClosing_config (s : State) (i : Station) (o : OutcomeKind) : (s.shownClosing i o).config = s.config := by
  simp [State.shownClosing]

theorem State.shownClosing_joinSlip (s : State) (i : Station) (o : OutcomeKind) (slip : Slip) :
    (s.shownClosing i o).joinSlip slip
      = { s.shownClosing i o with slips := s.slips.join s.config s.levels.paperOut s.ready slip } := by
  simp [State.joinSlip, State.shownClosing]

/-- A close with nothing to print asks for its record at once (R43). -/
theorem State.beginClose_without_slip (h : s.sessions[i].granted = [] ∨ s.config.stations[i].slipsEnabled = false) (o : OutcomeKind) :
    s.beginClose i (some o) = (s.shownClosing i o).settleSlip i .none := by
  have hnone : (s.sessions[i].granted.isEmpty || !s.config.stations[i].slipsEnabled) = true := by simpa using h
  exact if_pos hnone

/-- A close with a list to print offers its LOAN_SLIP (R43). -/
theorem State.beginClose_with_slip (hlist : s.sessions[i].granted ≠ []) (henabled : s.config.stations[i].slipsEnabled = true)
    (o : OutcomeKind) :
    s.beginClose i (some o)
      = (s.shownClosing i o).offer i
          { station := i, time := s.clock.stamp, card := s.sessions[i].card, body := .loan s.sessions[i].granted, copy := false } := by
  have hsome : ¬(s.sessions[i].granted.isEmpty || !s.config.stations[i].slipsEnabled) = true := by simpa using ⟨hlist, henabled⟩
  exact if_neg hsome

/-! ### The session's timers (R35, R38, R44) -/

theorem exec_slipWaitExpiry_of_waiting (hrun : s.running = true) (h : s.sessions[i].slipWait = some slip) :
    exec (.slipWaitExpiry i) s = .next (settle s (((s.endWait i).latch .slipDropped).slipSettled i slip .dropped)) := by
  rw [exec_slipWaitExpiry, hrun, h]
  rfl

theorem exec_slipReoffer_of_waiting (hrun : s.running = true) (h : s.sessions[i].slipWait = some slip) (hroom : s.slips.queue.length < 4) :
    exec (.slipReoffer i) s = .next (settle s (((s.endWait i).joinSlip slip).slipSettled i slip .queued)) := by
  rw [exec_slipReoffer, hrun, (State.slipRoom_iff s).mpr hroom, h]
  rfl

theorem State.endWait_session (s : State) (i : Station) : (s.endWait i).sessions[i] = { s.sessions[i] with slipWait := none } := by
  simp [State.endWait]

end

/-- Settles O13: a close by whether it has a slip and where the slip goes, and each timer by the equation of its command. -/
theorem sessionsClose : Obligations.SessionsClose := by
  constructor
  · intro s i o x frozen shown slip
    refine ⟨fun h => ?_, fun hlist henabled => ⟨fun hroom => ?_, fun hfull hwait => ?_⟩⟩
    · rw [State.beginClose_without_slip h, State.settleSlip_eq (State.shownClosing_session ..) (State.shownClosing_journal ..)]
      rfl
    · rw [State.beginClose_with_slip hlist henabled, State.offer_of_room (by simpa using hroom), State.slipSettled_loan rfl,
        State.settleSlip_eq (s := (s.shownClosing i o).joinSlip slip) (State.shownClosing_session ..) (State.shownClosing_journal ..),
        State.shownClosing_joinSlip]
      rfl
    · rw [State.beginClose_with_slip hlist henabled, State.offer_of_full (by simpa using hfull) (by simpa using hwait),
        State.onSession, State.shownClosing_session]
      rfl
  · intro s i hrun
    refine ⟨fun hopen htimer => ?_, ?_, fun slip hslip => ⟨fun entries hbody => ?_, fun item expiry hbody => ?_,
      fun entries hbody hroom => ?_, fun item expiry hbody hroom => ?_⟩⟩
    · have hruns : s.idleRuns i = true := by simpa [State.idleRuns] using ⟨hopen, htimer⟩
      rw [exec_idleTimerExpiry, hrun, hruns]
      rfl
    · rw [exec_staffWindowExpiry, if_pos hrun]
      rfl
    · rw [exec_slipWaitExpiry_of_waiting hrun hslip, State.slipSettled_loan hbody,
        State.settleSlip_eq (s := (s.endWait i).latch .slipDropped) (State.endWait_session s i) rfl]
      simp [State.endWait, State.onSession, State.latch, Latched.put]
    · rw [exec_slipWaitExpiry_of_waiting hrun hslip, State.slipSettled_hold hbody]
      rfl
    · rw [exec_slipReoffer_of_waiting hrun hslip hroom, State.slipSettled_loan hbody,
        State.settleSlip_eq (s := (s.endWait i).joinSlip slip) (State.endWait_session s i) rfl]
      simp [State.endWait, State.onSession, State.joinSlip]
    · rw [exec_slipReoffer_of_waiting hrun hslip hroom, State.slipSettled_hold hbody]
      rfl

end Sys2Proof.Machine
end

section
/-! SUPPORT. The effects of a decision (R25, R29, R34, R35, R38, R46, R50, R51), each by what it makes of the state, and the close they may bring. -/

namespace Sys2Proof.Machine

section
variable {s : State} {i : Station}

/-! ### The latch and the outcome (R21, R50, R74) -/

theorem State.latchFor_eq (s : State) (c : Option Condition) :
    s.latchFor c = { s with latched := match c with | some c => s.latched.put true c | none => s.latched } := by
  cases c <;> rfl

/-- An outcome named at an enabled station is shown, unless the station is OUT_OF_SERVICE (R21). -/
theorem State.display_of_enabled (h : s.enabled = true) (o : OutcomeKind) :
    s.display i o
      = { s with
          channels :=
            if s.mode i = .outOfService then s.channels
            else s.channels.set i { s.channels[i] with pattern := some { outcome := o, interval := 0, lit := true } } } := by
  by_cases hout : s.mode i = .outOfService <;> simp [State.display, State.outOfService, h, hout]

theorem State.displayFor_eq (h : s.enabled = true) (o : Option OutcomeKind) :
    s.displayFor i o
      = { s with
          channels := match o with
            | some o =>
              if s.mode i = .outOfService then s.channels
              else s.channels.set i { s.channels[i] with pattern := some { outcome := o, interval := 0, lit := true } }
            | none => s.channels } := by
  cases o with
  | none => rfl
  | some o => exact State.display_of_enabled h o

/-! ### A trapped hold's slip (R46) -/

theorem State.offerHold_of_disabled (h : s.config.stations[i].slipsEnabled = false) (slip : Slip) :
    s.offerHold i (some slip) = s := by
  simp only [State.offerHold, h, Bool.false_eq_true, if_false]

theorem State.offerHold_of_enabled (h : s.config.stations[i].slipsEnabled = true) (slip : Slip) :
    s.offerHold i (some slip) = s.offer i slip := by
  simp only [State.offerHold, h, if_true]

/-- A hold's slip asks for no record wherever it goes: taken, dropped at once, or waiting (R46). -/
theorem State.offerHold_hold {slip : Slip} {item expiry : Nat} (hbody : slip.body = .hold item expiry) :
    s.offerHold i (some slip)
      = if s.config.stations[i].slipsEnabled = false then s
        else if s.slips.queue.length < 4 then { s with slips := s.slips.join s.config s.levels.paperOut s.ready slip }
        else if s.config.slipWait = 0 then { s with latched := { s.latched with slipDropped := true } }
        else { s with sessions := s.sessions.set i { s.sessions[i] with slipWait := some slip } } := by
  cases henabled : s.config.stations[i].slipsEnabled with
  | false => rw [State.offerHold_of_disabled henabled, if_pos rfl]
  | true =>
    rw [State.offerHold_of_enabled henabled, if_neg (by decide)]
    by_cases hroom : s.slips.queue.length < 4
    · rw [State.offer_of_room hroom, State.slipSettled_hold hbody, if_pos hroom]
      rfl
    · have hfull := Nat.not_lt.mp hroom
      rw [if_neg hroom]
      by_cases hwait : s.config.slipWait = 0
      · rw [State.offer_of_no_wait hfull hwait, State.slipSettled_hold hbody, if_pos hwait]
        rfl
      · rw [State.offer_of_full hfull hwait, if_neg hwait]
        rfl

/-- An offer leaves its station's session OPEN or not, with its close pending or not, as it was. -/
theorem State.offer_session (s : State) (i : Station) (slip : Slip) :
    (s.offer i slip).sessions[i].state = s.sessions[i].state
      ∧ (s.offer i slip).sessions[i].closePending = s.sessions[i].closePending := by
  have hsettled : ∀ (t : State) (o : SlipOutcome),
      (t.slipSettled i slip o).sessions[i].state = t.sessions[i].state
        ∧ (t.slipSettled i slip o).sessions[i].closePending = t.sessions[i].closePending := fun t o => by
    cases hbody : slip.body with
    | loan entries => rw [State.slipSettled_loan hbody]; simp [State.settleSlip]
    | hold item expiry => rw [State.slipSettled_hold hbody]; exact ⟨rfl, rfl⟩
  unfold State.offer
  split
  · exact hsettled (s.joinSlip slip) _
  · split
    · exact hsettled (s.latch .slipDropped) _
    · simp

theorem State.offerHold_session (s : State) (i : Station) (slip : Option Slip) :
    (s.offerHold i slip).sessions[i].state = s.sessions[i].state
      ∧ (s.offerHold i slip).sessions[i].closePending = s.sessions[i].closePending := by
  unfold State.offerHold
  split
  · split
    · exact State.offer_session ..
    · exact ⟨rfl, rfl⟩
  · exact ⟨rfl, rfl⟩

theorem State.offerHold_mode (s : State) (i : Station) (slip : Option Slip) : (s.offerHold i slip).mode i = s.mode i :=
  State.mode_congr (by rw [State.offerHold_config]) (State.offerHold_levels ..) i

/-! ### The close that a decision brings (R25, R29) -/

/-- A decision brings a close: one that is pending, or that of a session just opened where none may be (R25, R29). -/
def State.ClosesAfter (s : State) (i : Station) (opened : Bool) : Prop :=
  s.sessions[i].state = .open_
    ∧ (s.sessions[i].closePending = true ∨ opened = true ∧ (s.mode i = .returns ∨ s.mode i = .outOfService))

theorem State.closeAfter_of_closes {opened : Bool} (h : s.ClosesAfter i opened) :
    s.closeAfter i opened = s.beginClose i (some .closed) := by
  obtain ⟨hopen, hpending | ⟨rfl, hmode | hmode⟩⟩ := h
  · simp [State.closeAfter, -Fin.getElem_fin, hopen, hpending]
  · simp [State.closeAfter, -Fin.getElem_fin, hopen, hmode]
  · simp [State.closeAfter, -Fin.getElem_fin, hopen, hmode]

theorem State.closeAfter_of_stays {opened : Bool} (h : ¬s.ClosesAfter i opened) : s.closeAfter i opened = s := by
  refine if_neg fun hcloses => h ?_
  rw [Bool.and_eq_true, Bool.or_eq_true, Bool.and_eq_true, decide_eq_true_eq] at hcloses
  refine hcloses.imp id (Or.imp id (And.imp id fun hwrong => ?_))
  revert hwrong
  cases s.mode i <;> simp

/-! ### The session (R31, R34, R35, R38) -/

theorem Session.decided_of_opened {x : Session} {card : Nat} {v : Verdict} {guest : Bool} (h : v.opens = some guest) (out : Bool) :
    x.decided card v out
      = { x with
          state := .open_, card := card, guest := guest, granted := [], lastRefusal := none, closePending := false,
          window := if out then none else (match v.window with | some w => some w | none => x.window), idleTimer := true } := by
  simp only [Session.decided, h]
  rfl

theorem Session.decided_of_kept {x : Session} {card : Nat} {v : Verdict} (h : v.opens = none) (out : Bool) :
    x.decided card v out
      = { x with
          granted := x.granted ++ v.granted.toList, lastRefusal := v.lastRefusal.apply x.lastRefusal,
          window := if out then none else (match v.window with | some w => some w | none => x.window),
          idleTimer := decide (x.state = .open_) } := by
  simp only [Session.decided, h]
  rfl

/-! ### The engine (R48, R50, R51) -/

theorem Engine.decided_eq (e : Engine) (d : Decision) (v : Verdict) (sequence : Nat) :
    e.decided d v sequence
      = { e with
          phase := .free, decision := none, verdict := none,
          last := e.last.set d.station (some { kind := v.kind, reason := v.reason, ident := d.scan.ident, sequence := sequence }),
          unrecorded := if v.unrecorded then min 65535 (e.unrecorded + 1) else e.unrecorded } := by
  unfold Engine.decided
  dsimp only
  split <;> rfl

end

/-- Settles O19: the effects in their order, each by its equation, and then the close. -/
theorem decisionEffectsApply : Obligations.DecisionEffectsApply := by
  intro s d v sequence hrun hphase hhold i x out window session decided offered closes
  have henabled : s.enabled = true := (State.enabled_iff s).mpr ⟨hrun, hphase⟩
  have hwindow : (if s.outOfService i then none else (match v.window with | some w => some w | none => x.window)) = window := by
    simp only [State.outOfService, beq_iff_eq]
    rfl
  have hsession : x.decided d.scan.ident v (s.outOfService i) = session := by
    cases hopens : v.opens with
    | some guest =>
      rw [Session.decided_of_opened hopens]
      simp only [session, hopens, ← hwindow]
    | none =>
      rw [Session.decided_of_kept hopens]
      simp only [session, hopens, ← hwindow]
      cases v.lastRefusal <;> rfl
  have hdecided :
      (State.latchFor (State.onSession { s with engine := s.engine.decided d v sequence } i fun x =>
        x.decided d.scan.ident v (s.outOfService i)) v.latch).displayFor i v.outcome = decided := by
    rw [State.latchFor_eq, State.onSession, hsession, Engine.decided_eq]
    refine (State.displayFor_eq ?_ v.outcome).trans ?_
    · exact henabled
    · rfl
  have hdecidedSession : decided.sessions[i] = session := by simp [decided]
  have hoffered : decided.offerHold i v.holdSlip = offered := by
    cases hslip : v.holdSlip with
    | none => simp only [offered, hslip]; rfl
    | some slip =>
      obtain ⟨item, expiry, hbody⟩ := hhold slip hslip
      rw [State.offerHold_hold hbody, hdecidedSession]
      simp only [offered, hslip, decided, Vector.set_set]
  have hcloses : offered.ClosesAfter i v.opens.isSome ↔ closes := by
    obtain ⟨hstate, hpending⟩ := State.offerHold_session decided i v.holdSlip
    have hmode : (decided.offerHold i v.holdSlip).mode i = s.mode i := State.offerHold_mode decided i v.holdSlip
    rw [hoffered, hdecidedSession] at hstate hpending
    rw [hoffered] at hmode
    rw [State.ClosesAfter, hstate, hpending, hmode]
  have happly : s.applyVerdict d v sequence = offered.closeAfter i v.opens.isSome := by
    rw [← hoffered, ← hdecided]
    rfl
  rw [happly]
  exact ⟨fun h => State.closeAfter_of_stays (mt hcloses.mp h), fun h => State.closeAfter_of_closes (hcloses.mpr h)⟩

end Sys2Proof.Machine
end

section
/-! SUPPORT. Write completions (R27, R45, R80, R114, R119, R136, R145, R182): the command as an equation, what each requester's own effects are, and the Restart that may wait for them. -/

namespace Sys2Proof.Machine

theorem exec_recordWriteCompletion (s : State) : exec .recordWriteCompletion s = finishStore s s.completeWrite := rfl

section
variable {s : State} {r : JournalRecord} {owner : Requester}

theorem State.completeWrite_of_writing (hrun : s.running = true) (h : s.journal.writer = .writing r owner) :
    s.completeWrite = (s.recordEffects r).ownerEffects r owner := by
  simp only [State.completeWrite, hrun, h]

/-! ### A Restart that waits (R145, R182) -/

theorem State.storing_eq_false_iff (h : s.journal.writer = .idle) :
    s.storing = false ↔ s.journal.eraseMarker = none ∧ s.configStore = none := by
  simp [State.storing, h]

/-- A completion that leaves the writer IDLE lets a waiting Restart go on, unless an erase or a Configure store is in progress. -/
theorem finishStore_of_idle {t : State} (h : t.journal.writer = .idle) :
    finishStore s t
      = .next (if t.life = .waitRestart ∧ (settle s t).journal.eraseMarker = none ∧ (settle s t).configStore = none then
            settle (settle s t) ((settle s t).resetBlocks.startUp .restartRequest)
          else settle s t) := by
  have hidle : (settle s t).journal.writer = .idle := by rw [settle_journal, h]
  rw [finishStore_next, State.restartNow]
  simp only [Bool.and_eq_true, beq_iff_eq, Bool.not_eq_true', State.storing_eq_false_iff hidle, settle_life]
  split
  · rfl
  · rw [settle_self]

/-! ### Effects that leave the writer as it is -/

@[simp] theorem State.settleSlip_writer (s : State) (i : Station) (o : SlipOutcome) :
    (s.settleSlip i o).journal.writer = s.journal.writer := rfl

@[simp] theorem State.slipSettled_writer (s : State) (i : Station) (slip : Slip) (o : SlipOutcome) :
    (s.slipSettled i slip o).journal.writer = s.journal.writer := by
  unfold State.slipSettled
  split <;> rfl

@[simp] theorem State.offer_writer (s : State) (i : Station) (slip : Slip) : (s.offer i slip).journal.writer = s.journal.writer := by
  unfold State.offer
  split
  · simp
  · split <;> simp

@[simp] theorem State.offerHold_writer (s : State) (i : Station) (slip : Option Slip) :
    (s.offerHold i slip).journal.writer = s.journal.writer := by
  cases slip with
  | none => rfl
  | some slip =>
    simp only [State.offerHold]
    split
    · exact State.offer_writer ..
    · rfl

@[simp] theorem State.beginClose_writer (s : State) (i : Station) (o : OutcomeKind) :
    (s.beginClose i (some o)).journal.writer = s.journal.writer := by
  simp only [State.beginClose]
  split <;> simp

@[simp] theorem State.closeAfter_writer (s : State) (i : Station) (opened : Bool) :
    (s.closeAfter i opened).journal.writer = s.journal.writer := by
  by_cases h : s.ClosesAfter i opened
  · rw [State.closeAfter_of_closes h, State.beginClose_writer]
  · rw [State.closeAfter_of_stays h]

@[simp] theorem State.applyVerdict_writer (s : State) (d : Decision) (v : Verdict) (sequence : Nat) :
    (s.applyVerdict d v sequence).journal.writer = s.journal.writer := by
  simp [State.applyVerdict]

/-! ### The requester's own effects (R136) -/

/-- A close ends: the session is IDLE and empty, and an OUT_OF_SERVICE station's scan queue is emptied (R27, R45). -/
theorem State.ownerEffects_close (s : State) (r : JournalRecord) (i : Station) :
    s.ownerEffects r (.close i)
      = { s with
          sessions := s.sessions.set i
            { s.sessions[i] with state := .idle, card := 0, guest := false, granted := [], closePending := false, slipOutcome := .none },
          channels :=
            if s.mode i = .outOfService then s.channels.set i { s.channels[i] with queue := [], hold := false } else s.channels } := by
  have hidle : (s.onSession i Session.closed).sessions[i].state ≠ .closing := by simp [Session.closed]
  simp only [State.ownerEffects]
  by_cases hout : s.mode i = .outOfService
  · rw [State.discardScans_of_closed (s := s.onSession i Session.closed) ⟨hout, hidle⟩, if_pos hout]
    have hhold : (s.onSession i Session.closed).outOfService i = true := beq_iff_eq.mpr hout
    rw [State.onChannel, Channel.retest_eq, hhold]
    rfl
  · rw [State.discardScans_of_serving (s := s.onSession i Session.closed) fun ⟨h, _⟩ => hout h, if_neg hout]
    rfl

theorem Clock.advanceBy_eq_foldl (edges : Nat) (c : Clock) :
    Clock.advanceBy edges c = (List.range edges).foldl (fun c _ => c.advance) c := by
  induction edges generalizing c with
  | zero => rfl
  | succ n ih => rw [Clock.advanceBy, ih, List.range_succ_eq_map, List.foldl_cons, List.foldl_map]

/-- The clock takes the new time and the edges counted since the turn (R80). -/
theorem State.setClock_of_writing {op : ClockOp} {day minute second edges : Nat}
    (h : s.clock.request = some { op := op, phase := .writing day minute second edges }) :
    s.setClock
      = { s with
          clock := (List.range edges).foldl (fun c _ => c.advance)
            { s.clock with day := day, minute := minute, second := second, isSet := true, halted := false, request := none } } := by
  simp only [State.setClock, h, Clock.advanceBy_eq_foldl]

theorem State.ownerEffects_engine {d : Decision} {v : Verdict} (hd : s.engine.decision = some d) (hv : s.engine.verdict = some v)
    (r : JournalRecord) : s.ownerEffects r .engine = s.applyVerdict d v r.sequence := by
  simp only [State.ownerEffects, hd, hv]

/-! ### The flip (R114) -/

theorem TableStore.setBank_eq (t : TableStore) (n : BankName) (b : Bank) :
    t.setBank n b = { t with bankA := if n = .a then b else t.bankA, bankB := if n = .b then b else t.bankB } := by
  cases n <;> rfl

theorem TableStore.bank_other_setBank (t : TableStore) (n : BankName) (b : Bank) : (t.setBank n b).bank n.other = t.bank n.other := by
  cases n <;> rfl

/-- A record's effects on the tables reach the live bank alone (R120). -/
theorem TableStore.rewriteLive_bank_other (t : TableStore) (f : TableSet → TableSet) :
    (t.rewriteLive f).bank t.live.other = t.bank t.live.other := TableStore.bank_other_setBank ..

theorem TableStore.rewriteLive_live (t : TableStore) (f : TableSet → TableSet) : (t.rewriteLive f).live = t.live := by
  rw [TableStore.rewriteLive, TableStore.setBank_eq]

theorem TableStore.rewriteLive_commit (t : TableStore) (f : TableSet → TableSet) : (t.rewriteLive f).commit = t.commit := by
  rw [TableStore.rewriteLive, TableStore.setBank_eq]

theorem TableStore.rewriteLive_protection (t : TableStore) (f : TableSet → TableSet) : (t.rewriteLive f).protection = t.protection := by
  rw [TableStore.rewriteLive, TableStore.setBank_eq]

theorem State.flip_tables (s : State) (r : JournalRecord) :
    (s.flip r).tables.live = s.tables.live.other
      ∧ (s.flip r).tables.bank s.tables.live.other = s.tables.bank s.tables.live.other
      ∧ (s.flip r).tables.basis = r.item ∧ (s.flip r).tables.valid = true
      ∧ (∀ n, (s.flip r).tables.standbyOf n = Standby.empty)
      ∧ (s.flip r).tables.commit = { s.tables.commit with state := .replaying }
      ∧ (s.flip r).tables.protection = s.tables.protection := by
  simp only [State.flip, TableStore.bank_other_setBank]
  rw [TableStore.setBank_eq]
  refine ⟨rfl, ?_, rfl, rfl, fun n => ?_, rfl, rfl⟩
  · cases s.tables.live.other <;> rfl
  · simp [TableStore.standbyOf]

end

/-- Settles O25: the record's effects and then the requester's, each by its equation; the writer is IDLE after any but a flip. -/
theorem completionServesRequester : Obligations.CompletionServesRequester := by
  constructor
  · intro s r hrun kept ends
    have hends : ∀ {owner u}, s.journal.writer = .writing r owner → kept.ownerEffects r owner = u → u.life = s.life →
        u.journal.writer = .idle → ends u := by
      rintro owner u hwriting rfl hlife hidle
      simp only [ends, exec_recordWriteCompletion, State.completeWrite_of_writing hrun hwriting, ← hlife]
      exact finishStore_of_idle hidle
    refine ⟨fun h => hends h rfl rfl rfl, fun h => hends h rfl rfl rfl, fun i h => hends h (State.ownerEffects_close kept r i) rfl rfl,
      fun op day minute second edges h hq => hends h (State.setClock_of_writing (s := kept) hq) rfl rfl,
      fun d v h hd hv => hends h (State.ownerEffects_engine (s := kept) hd hv r) ?_ ?_⟩
    · rw [State.applyVerdict_life]
    · rw [State.applyVerdict_writer]
  · intro s r hlife hwriting hkind
    have hrun : s.running = true := by simp [State.running, hlife]
    have hflipped : s.completeWrite = (s.recordEffects r).flip r := State.completeWrite_of_writing hrun hwriting
    obtain ⟨htlive, htbank, hbasis, hvalid, hstandby, htcommit, htprotection⟩ := (s.recordEffects r).flip_tables r
    simp only [State.recordEffects_tables, TableStore.rewriteLive_live, TableStore.rewriteLive_bank_other,
      TableStore.rewriteLive_commit, TableStore.rewriteLive_protection] at htlive htbank htcommit htprotection
    refine ⟨settle s ((s.recordEffects r).flip r), ?_, ?_⟩
    · rw [exec_recordWriteCompletion, hflipped]
      exact finishStore_of_not_waiting (by rw [State.flip_life, State.recordEffects_life, hlife]; decide)
    · simp only [settle_tables, settle_config, settle_sessions, settle_channels, settle_loans, settle_journal]
      rw [htlive, htbank, htcommit, htprotection]
      exact ⟨rfl, rfl, hbasis, hvalid, hstandby, rfl, rfl, rfl, rfl, rfl, rfl, rfl⟩

end Sys2Proof.Machine
end

section
/-! SUPPORT. A change of effective mode (R25, R27) with the close and the discard it brings, and Station Control's answers (R26). -/

namespace Sys2Proof.Machine

theorem exec_stationControlSetMode (station mode : Byte) (s : State) :
    exec (.stationControlSetMode station mode) s = finish s (s.takeRequest (.stationControl station 0 mode)) := rfl

theorem exec_stationControlCloseSession (station mode : Byte) (s : State) :
    exec (.stationControlCloseSession station mode) s = finish s (s.takeRequest (.stationControl station 1 mode)) := rfl

section
variable {s : State} {i : Station}

/-! ### A change of mode (R25, R27) -/

/-- A hold line tested twice at an OUT_OF_SERVICE station is released, as once (R5). -/
theorem Channel.retest_retest_out (ch : Channel) : (ch.retest true).retest true = ch.retest true := by
  simp only [Channel.retest_eq, if_true]

/-- The discard and the hold line's test that follows it, as one change of the channel (R5, R27). -/
theorem State.discardScans_retested (s : State) (i : Station) :
    (s.discardScans i).onChannel i id
      = { s with
          channels := s.channels.set i
            (Channel.retest (s.outOfService i)
              { s.channels[i] with
                queue := if s.mode i = .outOfService ∧ s.sessions[i].state ≠ .closing then [] else s.channels[i].queue }) } := by
  by_cases h : s.mode i = .outOfService ∧ s.sessions[i].state ≠ .closing
  · have ⟨hmode, _⟩ := h
    have hout : s.outOfService i = true := beq_iff_eq.mpr hmode
    rw [State.discardScans_of_closed h, State.onChannel_onChannel, State.onChannel, if_pos h, hout]
    simp only [id_eq, Channel.retest_retest_out]
  · rw [State.discardScans_of_serving h, State.onChannel, if_neg h]
    rfl

/-- A station's part in entering OUT_OF_SERVICE: its window closes and its pattern ends (R25). -/
def State.enteredMode (s : State) (i : Station) : State :=
  if s.mode i = .outOfService then
    { s with
      sessions := s.sessions.set i { s.sessions[i] with window := none },
      channels := s.channels.set i { s.channels[i] with pattern := none } }
  else s

/-- A station with a changed mode, its OPEN session closed or its close pending (R25, R29). -/
def State.closedByMode (s : State) (i : Station) : State :=
  if s.sessions[i].state = .open_ then (s.enteredMode i).closeFromOutside i else s.enteredMode i

theorem State.enteredMode_inFlight (s : State) (i : Station) : (s.enteredMode i).inFlight i = s.inFlight i := by
  unfold State.enteredMode
  split <;> rfl

theorem State.enteredMode_mode (s : State) (i : Station) : (s.enteredMode i).mode i = s.mode i := by
  unfold State.enteredMode
  split <;> rfl

theorem State.closedByMode_mode (s : State) (i : Station) : (s.closedByMode i).mode i = s.mode i := by
  unfold State.closedByMode
  split
  · rw [State.closeFromOutside_mode, State.enteredMode_mode]
  · exact State.enteredMode_mode s i

/-- A close asked for from outside: pending while a scan of the station is at the engine, and begun otherwise (R25, R29). -/
theorem State.closeFromOutside_eq (s : State) (i : Station) :
    s.closeFromOutside i
      = if s.inFlight i then { s with sessions := s.sessions.set i { s.sessions[i] with closePending := true } }
        else s.beginClose i (some .closed) := rfl

theorem State.modeChanged_of_changed {before : Mode} (h : s.mode i ≠ before) :
    s.modeChanged i before = ((s.closedByMode i).discardScans i).onChannel i id := by
  have hentered : (if s.outOfService i then (s.onSession i fun x => { x with window := none }).darken i else s) = s.enteredMode i := by
    simp only [State.outOfService, beq_iff_eq]
    rfl
  rw [State.modeChanged, if_neg h, hentered]
  rfl

/-! ### Station Control (R26) -/

theorem stationOf_byte : ∀ i : Station, stationOf (byte i.val).toNat = some i := by decide

theorem stationOf_of_above {b : Byte} (h : 3 < b.toNat) : stationOf b.toNat = none := dif_neg (by omega)

theorem Mode.ofCode_of_above {n : Nat} (h : 3 < n) : Mode.ofCode n = none := by
  obtain ⟨k, rfl⟩ := Nat.exists_eq_add_of_le' h
  rfl

/-- A served Station Control leaves what its answer says. -/
theorem finish_stationControl (hs : s.serves 1 = true) (station action mode : Byte) :
    finish s (s.takeRequest (.stationControl station action mode))
      = .next (answered s (s.answerStationControl station action mode).state 0x86
          (byte (s.answerStationControl station action mode).status.code :: (s.answerStationControl station action mode).fields)) :=
  finish_served (level := 1) rfl hs rfl rfl

theorem State.answerStationControl_no_station {station : Byte} (h : 3 < station.toNat) (action mode : Byte) :
    s.answerStationControl station action mode = s.deny .range := by
  simp only [State.answerStationControl, stationOf_of_above h]

theorem State.answerStationControl_setMode {m : Mode} {mode : Byte} (h : Mode.ofCode mode.toNat = some m) :
    s.answerStationControl (byte i.val) 0 mode = (s.setMode i m).done := by
  simp only [State.answerStationControl, stationOf_byte, h]
  rfl

theorem State.answerStationControl_no_mode {mode : Byte} (h : 3 < mode.toNat) :
    s.answerStationControl (byte i.val) 0 mode = s.deny .range := by
  simp only [State.answerStationControl, stationOf_byte, Mode.ofCode_of_above h]
  rfl

theorem State.answerStationControl_close (s : State) (i : Station) (mode : Byte) :
    s.answerStationControl (byte i.val) 1 mode
      = if s.sessions[i].state = .open_ then (s.closeFromOutside i).done else s.deny .state := by
  simp only [State.answerStationControl, stationOf_byte]
  rfl

end

/-- Settles O41: a change of mode by the steps of R25 in their order, and the requests by their answers. -/
theorem stationControlActs : Obligations.StationControlActs := by
  constructor
  · intro s i before out entered closed ch left
    refine ⟨State.modeChanged_of_same, fun h => ?_⟩
    have hentered : s.enteredMode i = entered := by
      simp only [State.enteredMode, entered, out, decide_eq_true_eq]
    have hflight : entered.inFlight i = s.inFlight i := hentered ▸ s.enteredMode_inFlight i
    have hclosed : s.closedByMode i = closed := by
      simp only [State.closedByMode, State.closeFromOutside_eq, hentered, hflight, closed, ite_not]
    have hmode : closed.mode i = s.mode i := hclosed ▸ s.closedByMode_mode i
    have hout : closed.outOfService i = out := by
      simp only [State.outOfService, hmode, out]
      rfl
    rw [State.modeChanged_of_changed h, hclosed, State.discardScans_retested, hout, hmode]
    simp only [left, ch, out, decide_eq_true_eq]
  · intro s i mode hs named
    simp only [exec_stationControlSetMode, exec_stationControlCloseSession, finish_stationControl hs]
    refine ⟨fun m h => ?_, fun h => ?_, fun hopen hflight => ?_, fun hopen hflight => ?_, fun hclosed => ?_, fun station h => ⟨?_, ?_⟩⟩
    · rw [State.answerStationControl_setMode h]
      rfl
    · rw [State.answerStationControl_no_mode h]
      rfl
    · rw [State.answerStationControl_close, if_pos hopen, State.closeFromOutside_of_idle hflight]
      rfl
    · rw [State.answerStationControl_close, if_pos hopen, State.closeFromOutside_of_inFlight hflight]
      rfl
    · rw [State.answerStationControl_close, if_neg hclosed]
      rfl
    · rw [State.answerStationControl_no_station h]
      rfl
    · rw [State.answerStationControl_no_station h]
      rfl

end Sys2Proof.Machine
end

section
/-! SUPPORT. Layouts (R185): bytes as a list of fields with their widths, and where each field stands in them. -/

namespace Sys2Proof.Machine

/-- The bytes of some fields, each a width and a value, most significant byte first (R185). -/
def layout (fields : List (Nat × Nat)) : List Byte := fields.flatMap fun f => beBytes f.1 f.2

/-- The bytes some fields take. -/
def widthOf (fields : List (Nat × Nat)) : Nat := (fields.map (·.1)).sum

/-- Some fields stand one after the other in the bytes, from an offset on. -/
def SpellsAll (bytes : List Byte) : Nat → List (Nat × Nat) → Prop
  | _, [] => True
  | offset, f :: rest => Spells bytes offset f.1 f.2 ∧ SpellsAll bytes (offset + f.1) rest

@[simp] theorem length_beBytes (n v : Nat) : (beBytes n v).length = n := by
  induction n with
  | zero => rfl
  | succ n ih => rw [beBytes, List.length_cons, ih]

theorem beBytes_one (v : Nat) : beBytes 1 v = [byte v] := by simp [beBytes, byte]

theorem beBytes_zero (n : Nat) : beBytes n 0 = List.replicate n 0 := by
  induction n with
  | zero => rfl
  | succ n ih =>
    rw [beBytes, ih, Nat.zero_div]
    rfl

theorem byte_toNat (b : Byte) : byte b.toNat = b := by simp [byte]

theorem markByte_eq (b : Bool) : markByte b = byte (if b then 1 else 0) := by cases b <;> rfl

theorem flagBit_eq (b : Bool) (n : Nat) : flagBit b n = 2 ^ n * if b then 1 else 0 := by cases b <;> simp [flagBit]

@[simp] theorem layout_nil : layout [] = [] := rfl

@[simp] theorem layout_cons (f : Nat × Nat) (rest : List (Nat × Nat)) : layout (f :: rest) = beBytes f.1 f.2 ++ layout rest := rfl

@[simp] theorem layout_append (a b : List (Nat × Nat)) : layout (a ++ b) = layout a ++ layout b := List.flatMap_append

theorem layout_flatMap {α : Type} (l : List α) (f : α → List (Nat × Nat)) : layout (l.flatMap f) = l.flatMap fun a => layout (f a) :=
  List.flatMap_assoc

theorem length_layout (fields : List (Nat × Nat)) : (layout fields).length = widthOf fields := by
  simp [layout, widthOf, List.length_flatMap]

theorem widthOf_nil : widthOf [] = 0 := rfl

theorem widthOf_cons (f : Nat × Nat) (rest : List (Nat × Nat)) : widthOf (f :: rest) = f.1 + widthOf rest := rfl

theorem widthOf_append (a b : List (Nat × Nat)) : widthOf (a ++ b) = widthOf a + widthOf b := by simp [widthOf]

/-- Blocks of one width take so many times that width. -/
theorem widthOf_flatMap {α : Type} {f : α → List (Nat × Nat)} {m : Nat} (hf : ∀ a, widthOf (f a) = m) (l : List α) :
    widthOf (l.flatMap f) = m * l.length := by
  induction l with
  | nil => rfl
  | cons a rest ih => rw [List.flatMap_cons, widthOf_append, hf, ih, List.length_cons, Nat.mul_succ, Nat.add_comm]

theorem spellsAll_append {bytes : List Byte} {offset : Nat} {a b : List (Nat × Nat)} (h : SpellsAll bytes offset (a ++ b)) :
    SpellsAll bytes offset a ∧ SpellsAll bytes (offset + widthOf a) b := by
  induction a generalizing offset with
  | nil => exact ⟨trivial, h⟩
  | cons f rest ih =>
    obtain ⟨hf, hrest⟩ := h
    obtain ⟨ha, hb⟩ := ih hrest
    refine ⟨⟨hf, ha⟩, ?_⟩
    rwa [widthOf_cons, ← Nat.add_assoc]

/-- Of blocks of one width, the block at place `k` stands `k` widths on. -/
theorem spellsAll_block {α : Type} {bytes : List Byte} {offset m : Nat} {f : α → List (Nat × Nat)} (hf : ∀ a, widthOf (f a) = m)
    {l : List α} (h : SpellsAll bytes offset (l.flatMap f)) {k : Nat} {a : α} (hk : l[k]? = some a) :
    SpellsAll bytes (offset + m * k) (f a) := by
  induction l generalizing offset k with
  | nil => simp at hk
  | cons b rest ih =>
    rw [List.flatMap_cons] at h
    obtain ⟨hb, hrest⟩ := spellsAll_append h
    cases k with
    | zero =>
      cases hk
      exact hb
    | succ k =>
      rw [hf] at hrest
      have hblock := ih hrest hk
      rwa [Nat.add_assoc, Nat.add_comm m, ← Nat.mul_succ] at hblock

theorem spellsAll_behind (before : List Byte) (fields : List (Nat × Nat)) :
    SpellsAll (before ++ layout fields) before.length fields := by
  induction fields generalizing before with
  | nil => trivial
  | cons f rest ih =>
    refine ⟨?_, ?_⟩
    · simp [Spells]
    · have hrest := ih (before ++ beBytes f.1 f.2)
      rwa [List.append_assoc, List.length_append, length_beBytes] at hrest

/-- The fields of a layout stand in it one after the other. -/
theorem spellsAll_layout (fields : List (Nat × Nat)) : SpellsAll (layout fields) 0 fields := spellsAll_behind [] fields

end Sys2Proof.Machine
end

section
/-! SUPPORT. Status Read (R152, R180, R192, Table 19), each section as the fields of its layout, and Access and Leave (R178). -/

namespace Sys2Proof.Machine

open Config

theorem exec_statusRead (sect clear : Byte) (s : State) :
    exec (.statusRead sect clear) s = finish s (s.takeRequest (.statusRead sect clear)) := rfl

theorem exec_access (code : BitVec 32) (s : State) : exec (.access code) s = finish s (s.takeRequest (.access code)) := rfl

theorem exec_leave (s : State) : exec .leave s = finish s (s.takeRequest .leave) := rfl

/-! ### Requests served in every start-up phase (R175, R193) -/

/-- Status Read and Access are served during start-up too, at any access level. -/
theorem finish_served_early {s : State} {r : Request} (ht : r.typeCode = 0x01 ∨ r.typeCode = 0x02) (hlife : s.life = .on)
    (hshut : s.link.shut = false) (hroom : s.link.responses < 4) (hf : s.fits r = true) (htag : (s.serve r).tag (.request r) = .plain) :
    finish s (s.takeRequest r)
      = .next (answered s (s.serve r).state (r.typeCode + 0x80) (byte (s.serve r).status.code :: (s.serve r).fields)) := by
  have hlevel : requestLevel r.typeCode = some 0 := by obtain ht | ht := ht <;> rw [ht] <;> rfl
  have hearly : (s.phase != .started && r.typeCode != 0x01 && r.typeCode != 0x02) = false := by obtain ht | ht := ht <;> simp [ht]
  have hresponses : ¬responseDepth ≤ s.link.responses := Nat.not_le.mpr hroom
  have hrequest : ¬0x80 ≤ r.typeCode := by omega
  have hanswer : s.answer r.typeCode (.request r) = s.serve r := by
    simp only [State.answer, hlevel, hearly, Bool.false_eq_true, if_false, Nat.not_lt_zero, hf, if_true]
  have htaken : s.takeRequest r = (s.serve r).respond r.typeCode (.request r) := by
    simp only [State.takeRequest, State.takeFrame, hlife, hshut, beq_self_eq_true, Bool.not_false, Bool.and_self, if_true,
      if_neg hresponses, if_neg hrequest, hanswer]
  rw [htaken, finish_next, Answer.respond, htag]
  rfl

/-! ### Section 0, desk -/

/-- The fields of section 0 (Table 19). -/
def State.deskFields (s : State) : List (Nat × Nat) :=
  [(1, (s.heldCause.map Cause.code).getD 255), (1, s.phase.code), (1, s.link.access), (4, s.activeMask), (2, s.link.errors),
    (2, s.shownUnrecorded), (2, s.clock.day), (2, s.clock.minute), (1, s.clock.second),
    (1, flagBit s.clock.isSet 0 + flagBit s.clock.halted 1 + flagBit s.clock.request.isSome 2)]

theorem State.deskSection_eq (s : State) : s.deskSection = layout s.deskFields := by
  simp [State.deskSection, State.deskFields, beBytes_one]

/-! ### Section 1, stations and printer -/

/-- The fields of a last decision result; a station without one shows 12 bytes of 0 (Table 19). -/
def resultFields : Option LastResult → List (Nat × Nat)
  | some r => [(1, r.kind.code), (1, (r.reason.map Reason.code).getD 0), (6, r.ident), (4, r.sequence)]
  | none => [(12, 0)]

/-- One station's fields of section 1 (Table 19). -/
def State.stationFields (s : State) (i : Station) : List (Nat × Nat) :=
  let ch := s.channels[i]
  let x := s.sessions[i]
  [(1, s.config.stations[i].mode.code), (1, (s.mode i).code), (1, SelectorLevel.code s.levels.selector[i]), (1, x.state.code),
    (6, x.card), (1, if x.window.isSome then 1 else 0), (1, ch.fifo.length), (1, if ch.hold then 1 else 0), (1, ch.queue.length),
    (1, ch.errors), (1, if ch.overrun then 1 else 0)] ++ resultFields s.engine.last[i]

/-- A place of the slip queue: the kind of its slip and the station, or a free value (Table 15, log 42). -/
def slipPlaceValue (draw place : Nat) : Option Slip → Nat
  | some { body := .loan _, station := i, .. } => 16 + i.val
  | some { body := .hold _ _, station := i, .. } => 32 + i.val
  | none => (emptyPlaceStation draw place).toNat

/-- The fields of section 1 (Table 19). -/
def State.stationsFields (s : State) : List (Nat × Nat) :=
  ([0, 1, 2, 3] : List Station).flatMap s.stationFields ++ ([(1, s.slips.queue.length)]
    ++ ((List.range 4).flatMap (fun k => [(1, slipPlaceValue s.draws k s.slips.queue[k]?)])
    ++ [(1, s.slips.port.code), (2, s.slips.position), (1, if s.ready then 1 else 0), (1, if s.levels.paperOut then 1 else 0),
        (1, if s.slips.lastPrinted.isSome then 1 else 0)]))

theorem layout_bytes {α : Type} (l : List α) (v : α → Nat) : layout (l.flatMap fun a => [(1, v a)]) = l.map fun a => byte (v a) := by
  simp [layout_flatMap, beBytes_one, List.map_eq_flatMap]

theorem State.stationSection_eq (s : State) (i : Station) : s.stationSection i = layout (s.stationFields i) := by
  have hzero : beBytes 12 0 = 0 :: 0 :: (beBytes 6 0 ++ beBytes 4 0) := by decide
  unfold State.stationSection State.stationFields
  cases s.engine.last[i] with
  | none => simp [resultFields, hzero, beBytes_one, markByte_eq]
  | some r => simp [resultFields, beBytes_one, markByte_eq]

theorem slipPlace_eq (draw place : Nat) (slip : Option Slip) : slipPlace draw place slip = byte (slipPlaceValue draw place slip) := by
  unfold slipPlace slipPlaceValue
  split
  · next slip => cases slip with | mk station time card body copy => cases body <;> rfl
  · rfl

theorem State.slipPlaces_eq (s : State) :
    s.slipPlaces = layout ((List.range 4).flatMap fun k => [(1, slipPlaceValue s.draws k s.slips.queue[k]?)]) := by
  simp only [layout_bytes, State.slipPlaces, slipPlace_eq]

theorem State.stationsSection_eq (s : State) : s.stationsSection = layout s.stationsFields := by
  rw [State.stationsSection, State.stationsFields, layout_append, layout_append, layout_append, ← State.slipPlaces_eq]
  simp [← State.stationSection_eq, beBytes_one, markByte_eq]

theorem widthOf_stationFields (s : State) (i : Station) : widthOf (s.stationFields i) = 28 := by
  rw [State.stationFields, widthOf_append]
  cases s.engine.last[i] <;> rfl

/-! ### Section 2, tables -/

/-- One standby table's fields of section 2; the figures that its state does not have are free values (Table 19, log 24). -/
def TableStore.standbyFields (t : TableStore) (draw : Nat) (n : TableId) : List (Nat × Nat) :=
  let k := n.index.val
  let b := t.standbyOf n
  [(1, b.state.code), (2, match t.loading n with | some l => l.count | none => (absentCount draw k).toNat),
    (2, match t.loading n with | some l => l.pointer | none => (absentPointer draw k).toNat),
    (4, b.copyPoint.getD (absentCopyPoint draw k).toNat), (1, (b.failure.map Status.code).getD 0)]

/-- The fields of section 2 (Table 19). -/
def State.tablesFields (s : State) : List (Nat × Nat) :=
  let t := s.tables
  [(1, t.live.code), (1, if t.valid then 1 else 0), (4, t.basis), (1, t.commit.state.code), (4, t.commit.basis),
    (1, (t.commit.failure.map fun f => f.1.index.val).getD 255), (1, (t.commit.failure.map fun f => f.2.code).getD 0),
    (1, if t.patch.isSome then 1 else 0), (2, s.loans.length)]
    ++ (TableId.all.flatMap (t.standbyFields s.draws)
    ++ [(1, t.protection.patchMask.toNat), (1, t.protection.loadMask.toNat), (6, t.protection.low), (6, t.protection.high),
        (1, if t.protection.complement then 1 else 0), (1, t.protection.lock.code)])

theorem TableStore.standbySection_eq (t : TableStore) (draw : Nat) (n : TableId) :
    t.standbySection draw n = layout (t.standbyFields draw n) := by
  simp only [TableStore.standbySection, TableStore.standbyFields, TableStore.loading, layout_cons, layout_nil, beBytes_one]
  cases t.load with
  | none => simp
  | some l => by_cases hl : l.table = n <;> simp [hl]

theorem State.tablesSection_eq (s : State) : s.tablesSection = layout s.tablesFields := by
  simp [State.tablesSection, State.tablesFields, Protection.bytes, layout_flatMap, ← TableStore.standbySection_eq, beBytes_one,
    markByte_eq, byte_toNat]

/-! ### Section 3, journal -/

/-- The fields of section 3, 0 in every one during phase 1 (R152, Table 19). -/
def State.journalFields (s : State) : List (Nat × Nat) :=
  if s.phase = .recovery then [(91, 0)]
  else
    let j := s.journal
    [(4, j.released), (4, s.tables.basis), (4, j.lastComplete), (4, j.shownNext s.draws), (2, j.used), (2, j.free), (2, j.headSlot),
      (1, j.tailPage), (1, j.eraseQueue.length), (1, j.eraseMarker.getD 255), (1, j.requests.length),
      (1, flagBit j.tornMark 0 + flagBit j.erasedAgainMark 1)]
      ++ (List.range 64).flatMap fun k => [(1, (j.page (2 * k)).code * 16 + (j.page (2 * k + 1)).code)]

theorem State.journalSection_eq (s : State) : s.journalSection = layout s.journalFields := by
  unfold State.journalSection State.journalFields
  split
  · rw [layout_cons, layout_nil, List.append_nil, beBytes_zero]
  · rw [layout_append, layout_bytes]
    simp [Journal.pageBytes, beBytes_one]

/-! ### Where the fields stand -/

theorem Spells.of_eq {bytes : List Byte} {offset width v w : Nat} (h : Spells bytes offset width v) (e : v = w) :
    Spells bytes offset width w := e ▸ h

theorem State.widthOf_stationsFields (s : State) : widthOf s.stationsFields = 123 := by
  rw [State.stationsFields, widthOf_append, widthOf_flatMap (widthOf_stationFields s)]
  rfl

theorem TableStore.widthOf_standbyFields (t : TableStore) (draw : Nat) (n : TableId) : widthOf (t.standbyFields draw n) = 10 := rfl

theorem State.widthOf_tablesFields (s : State) : widthOf s.tablesFields = 112 := by
  rw [State.tablesFields, widthOf_append, widthOf_append, widthOf_flatMap (s.tables.widthOf_standbyFields s.draws)]
  rfl

theorem widthOf_bytes {α : Type} (l : List α) (v : α → Nat) : widthOf (l.flatMap fun a => [(1, v a)]) = l.length := by
  rw [widthOf_flatMap (m := 1) (fun _ => rfl), Nat.one_mul]

theorem State.widthOf_journalFields (s : State) : widthOf s.journalFields = 91 := by
  unfold State.journalFields
  split
  · rfl
  · rw [widthOf_append, widthOf_bytes, List.length_range]
    rfl

/-- One station's fields stand at its place of section 1. -/
theorem State.spells_stationFields (s : State) (i : Station) : SpellsAll (layout s.stationsFields) (28 * i.val) (s.stationFields i) := by
  have hplace : ∀ i : Station, ([0, 1, 2, 3] : List Station)[i.val]? = some i := by decide
  obtain ⟨hstations, -⟩ := spellsAll_append (spellsAll_layout s.stationsFields)
  have hblock := spellsAll_block (widthOf_stationFields s) hstations (hplace i)
  rwa [Nat.zero_add] at hblock

/-- A station's last decision result stands behind its other fields. -/
theorem State.spells_resultFields (s : State) (i : Station) :
    SpellsAll (layout s.stationsFields) (28 * i.val + 16) (resultFields s.engine.last[i]) := by
  obtain ⟨-, hlast⟩ := spellsAll_append (s.spells_stationFields i)
  simpa only [widthOf_cons, widthOf_nil, Nat.reduceAdd] using hlast

/-- The fields of section 1 behind the stations. -/
theorem State.spells_printerFields (s : State) :
    let c := layout s.stationsFields
    Spells c 112 1 s.slips.queue.length ∧ (∀ k, k < 4 → Spells c (113 + k) 1 (slipPlaceValue s.draws k s.slips.queue[k]?))
      ∧ SpellsAll c 117
        [(1, s.slips.port.code), (2, s.slips.position), (1, if s.ready then 1 else 0), (1, if s.levels.paperOut then 1 else 0),
          (1, if s.slips.lastPrinted.isSome then 1 else 0)] := by
  intro c
  obtain ⟨-, hprinter⟩ := spellsAll_append (spellsAll_layout s.stationsFields)
  rw [widthOf_flatMap (widthOf_stationFields s)] at hprinter
  obtain ⟨⟨hcount, -⟩, hrest⟩ := spellsAll_append hprinter
  obtain ⟨hplaces, hport⟩ := spellsAll_append hrest
  refine ⟨hcount, fun k hk => ?_, hport⟩
  obtain ⟨hplace, -⟩ := spellsAll_block (m := 1) (fun _ => rfl) hplaces (List.getElem?_range hk)
  rwa [Nat.one_mul] at hplace

/-- One standby table's fields stand at its place of section 2. -/
theorem State.spells_standbyFields (s : State) (n : TableId) :
    SpellsAll (layout s.tablesFields) (16 + 10 * n.index.val) (s.tables.standbyFields s.draws n) := by
  have hplace : TableId.all[n.index.val]? = some n := by cases n <;> rfl
  obtain ⟨-, hrest⟩ := spellsAll_append (spellsAll_layout s.tablesFields)
  obtain ⟨hstandby, -⟩ := spellsAll_append hrest
  exact spellsAll_block (s.tables.widthOf_standbyFields s.draws) hstandby hplace

/-- The protection settings stand behind the standby tables in section 2. -/
theorem State.spells_protectionFields (s : State) :
    SpellsAll (layout s.tablesFields) 96
      [(1, s.tables.protection.patchMask.toNat), (1, s.tables.protection.loadMask.toNat), (6, s.tables.protection.low),
        (6, s.tables.protection.high), (1, if s.tables.protection.complement then 1 else 0), (1, s.tables.protection.lock.code)] := by
  obtain ⟨-, hrest⟩ := spellsAll_append (spellsAll_layout s.tablesFields)
  obtain ⟨-, hprotection⟩ := spellsAll_append hrest
  rwa [widthOf_flatMap (s.tables.widthOf_standbyFields s.draws)] at hprotection

/-- The fields of section 3 once recovery has derived the Journal. -/
theorem State.spells_journalFields {s : State} (h : s.phase ≠ .recovery) :
    let c := layout s.journalFields
    let j := s.journal
    SpellsAll c 0
        [(4, j.released), (4, s.tables.basis), (4, j.lastComplete), (4, j.shownNext s.draws), (2, j.used), (2, j.free), (2, j.headSlot),
          (1, j.tailPage), (1, j.eraseQueue.length), (1, j.eraseMarker.getD 255), (1, j.requests.length),
          (1, flagBit j.tornMark 0 + flagBit j.erasedAgainMark 1)]
      ∧ ∀ k, k < 64 → Spells c (27 + k) 1 ((j.page (2 * k)).code * 16 + (j.page (2 * k + 1)).code) := by
  intro c j
  have hall := spellsAll_layout s.journalFields
  rw [show s.journalFields = _ from if_neg h] at hall
  obtain ⟨hfigures, hpages⟩ := spellsAll_append hall
  rw [← show s.journalFields = _ from if_neg h] at hfigures hpages
  refine ⟨hfigures, fun k hk => ?_⟩
  obtain ⟨hpage, -⟩ := spellsAll_block (m := 1) (fun _ => rfl) hpages (List.getElem?_range hk)
  rwa [Nat.one_mul] at hpage

theorem Journal.shownNext_of_room {j : Journal} (h : j.lastComplete < 4294967295) (draw : Nat) : j.shownNext draw = j.lastComplete + 1 := by
  have hroom : j.exhausted = false := decide_eq_false (Nat.not_le.mpr h)
  simp [Journal.shownNext, hroom, Journal.nextSequence]

/-- In phase 1 section 3 is 0 throughout (R152). -/
theorem State.spells_journal_of_recovery {s : State} (h : s.phase = .recovery) : Spells (layout s.journalFields) 0 91 0 := by
  have hfields : s.journalFields = [(91, 0)] := if_pos h
  rw [hfields]
  obtain ⟨hzero, -⟩ := spellsAll_layout [(91, 0)]
  exact hzero

/-! ### The answers -/

/-- The answer to a Status Read of a section with some fields (R180). -/
theorem exec_statusRead_of_fields {s : State} {sect clear : Byte} {fields : List (Nat × Nat)} (hlife : s.life = .on)
    (hshut : s.link.shut = false) (hroom : s.link.responses < 4)
    (h : s.statusRead sect clear = { status := .ok, fields := sect :: layout fields, state := s.afterRead clear }) :
    exec (.statusRead sect clear) s = .next (answered s (s.afterRead clear) 0x81 (0 :: sect :: layout fields)) := by
  have hserve : s.serve (.statusRead sect clear) = s.statusRead sect clear := rfl
  rw [exec_statusRead, finish_served_early (.inl rfl) hlife hshut hroom rfl rfl, hserve, h]
  rfl

/-- A section above 3 is answered RANGE (R180, log 14). -/
theorem State.statusRead_of_above {s : State} {sect : Byte} (h : 3 < sect.toNat) (clear : Byte) :
    s.statusRead sect clear = s.deny .range := by
  unfold State.statusRead
  dsimp only
  split
  case h_5 => rfl
  all_goals omega

/-- Settles O39: each section by its layout, and Access and Leave by their answers. -/
theorem statusAndAccess : Obligations.StatusAndAccess := by
  refine ⟨?_, by decide, ?_⟩
  · intro s sect clear hlife hshut hroom result flag answers
    have hanswers : ∀ {length : Nat} {fields : List (Nat × Nat)} {p : List Byte → Prop},
        s.statusRead sect clear = { status := .ok, fields := sect :: layout fields, state := s.afterRead clear } →
        widthOf fields = length → p (layout fields) → answers length p := fun h hwidth hp =>
      ⟨_, (length_layout _).trans hwidth, hp, exec_statusRead_of_fields hlife hshut hroom h⟩
    refine ⟨?_, ?_, ?_, ?_, ?_⟩
    · rintro rfl
      refine hanswers (fields := s.deskFields) (by rw [← State.deskSection_eq]; rfl) rfl ?_
      obtain ⟨hcause, hphase, haccess, hmask, herrors, hunrecorded, hday, hminute, hsecond, hmarks, -⟩ := spellsAll_layout s.deskFields
      refine ⟨hcause.of_eq ?_, hphase.of_eq ?_, haccess, hmask, herrors, hunrecorded, hday, hminute, hsecond, hmarks.of_eq ?_⟩
      · cases s.heldCause with
        | none => rfl
        | some c => cases c <;> rfl
      · cases s.phase <;> rfl
      · simp only [flagBit_eq, flag, Nat.reducePow, Nat.one_mul]
    · rintro rfl
      refine hanswers (fields := s.stationsFields) (by rw [← State.stationsSection_eq]; rfl) s.widthOf_stationsFields ?_
      obtain ⟨hcount, hplaces, hport, hposition, hready, hpaper, hprinted, -⟩ := s.spells_printerFields
      refine ⟨fun i => ?_, hcount, fun k hk => hplaces k hk, hport, hposition, hready, hpaper, hprinted⟩
      dsimp only
      obtain ⟨hstation, -⟩ := spellsAll_append (s.spells_stationFields i)
      have hlast := s.spells_resultFields i
      obtain ⟨hconfigured, hmode, hselector, hstate, hcard, hwindow, hfifo, hhold, hqueue, herrors, hoverrun, -⟩ := hstation
      refine ⟨hconfigured, hmode, hselector.of_eq ?_, hstate.of_eq ?_, hcard, hwindow, hfifo, hhold, hqueue, herrors, hoverrun,
        fun hnone => ?_, fun r hr => ?_⟩
      · cases s.levels.selector[i] <;> rfl
      · cases s.sessions[i].state <;> rfl
      · rw [hnone] at hlast
        obtain ⟨hzero, -⟩ := hlast
        exact hzero
      · rw [hr] at hlast
        obtain ⟨hkind, hreason, hident, hsequence, -⟩ := hlast
        exact ⟨hkind, hreason, hident, hsequence⟩
    · rintro rfl
      refine hanswers (fields := s.tablesFields) (by rw [← State.tablesSection_eq]; rfl) s.widthOf_tablesFields ?_
      dsimp only
      obtain ⟨hset, -⟩ := spellsAll_append (spellsAll_layout s.tablesFields)
      obtain ⟨hlive, hvalid, hbasis, hcommit, hsequence, htable, hstatus, hpatch, hloans, -⟩ := hset
      obtain ⟨hpatchMask, hloadMask, hlow, hhigh, hcomplement, hlock, -⟩ := s.spells_protectionFields
      refine ⟨hlive, hvalid, hbasis, hcommit, hsequence, htable.of_eq ?_, hstatus.of_eq ?_, hpatch, hloans, fun n => ?_,
        hpatchMask, hloadMask, hlow, hhigh, hcomplement, hlock.of_eq ?_⟩
      · cases s.tables.commit.failure <;> rfl
      · cases s.tables.commit.failure <;> rfl
      · obtain ⟨hstate, hentries, hpointer, hpoint, hcode, -⟩ := s.spells_standbyFields n
        refine ⟨hstate, hentries, hpointer, hpoint.of_eq ?_, hcode.of_eq ?_⟩
        · cases (s.tables.standbyOf n).copyPoint <;> rfl
        · cases (s.tables.standbyOf n).failure <;> rfl
      · cases s.tables.protection.lock <;> rfl
    · rintro rfl
      refine hanswers (fields := s.journalFields) (by rw [← State.journalSection_eq]; rfl) s.widthOf_journalFields ?_
      refine ⟨State.spells_journal_of_recovery, fun hphase => ?_⟩
      obtain ⟨hfigures, hpages⟩ := State.spells_journalFields hphase
      obtain ⟨hreleased, hbasis, hlast, hnext, hused, hfree, hhead, htail, hqueue, hmarker, hrequests, hmarks, -⟩ := hfigures
      refine ⟨hreleased, hbasis, hlast, fun hroom => hnext.of_eq (Journal.shownNext_of_room hroom _), hused, hfree, hhead, htail,
        hqueue, hmarker.of_eq ?_, hrequests, hmarks.of_eq ?_, fun k hk => (hpages k hk).of_eq ?_⟩
      · cases s.journal.eraseMarker <;> rfl
      · simp only [flagBit_eq, flag, Nat.reducePow, Nat.one_mul]
      · rw [Nat.mul_comm]
    · intro h
      have hserve : s.serve (.statusRead sect clear) = s.deny .range := State.statusRead_of_above h clear
      simp only [result]
      rw [exec_statusRead, finish_served_early (.inl rfl) hlife hshut hroom rfl rfl, hserve]
      rfl
  · intro s code hlife hshut hroom level
    refine ⟨?_, fun hphase => ?_⟩
    · rw [exec_access, finish_served_early (.inr rfl) hlife hshut hroom rfl rfl]
      rfl
    · have hserves : s.serves 0 = true := by simp [State.serves, hlife, hshut, hphase, responseDepth, hroom]
      rw [exec_leave, finish_served (level := 0) rfl hserves rfl rfl]
      rfl

end Sys2Proof.Machine
end

section
/-! SUPPORT. The slot store and the Local Loan List keep their canonical form (R64, R130, R140): most of what a command does leaves both as they
are, and each operation that changes one of them keeps its form. -/

namespace Sys2Proof.Machine

open Config

/-! ### What the canonical form speaks of -/

/-- The part of the state that the canonical form speaks of: the slots, the erase queue and marker, and the Local Loan List. -/
def State.store (s : State) : List (Nat × Slot) × List Nat × Option Nat × List LoanEntry :=
  (s.journal.slots, s.journal.eraseQueue, s.journal.eraseMarker, s.loans)

theorem State.StoreWf.of_store {s t : State} (h : s.StoreWf) (e : t.store = s.store) : t.StoreWf := by
  simp only [State.store, Prod.mk.injEq] at e
  obtain ⟨hslots, hqueue, hmarker, hloans⟩ := e
  rwa [State.StoreWf, hslots, hqueue, hmarker, hloans]

theorem State.store_eq_of {s t : State} (hj : t.journal = s.journal) (hl : t.loans = s.loans) : t.store = s.store := by
  simp only [State.store, hj, hl]

/-! ### Operations that leave the store as it is

A request for a turn and a record being written change the journal, but not its store. -/

section
variable (s : State) (i : Station)

@[simp] theorem State.onSession_store (f : Session → Session) : (s.onSession i f).store = s.store := rfl
@[simp] theorem State.onChannel_store (f : Channel → Channel) : (s.onChannel i f).store = s.store := rfl
@[simp] theorem State.latch_store (c : Condition) : (s.latch c).store = s.store := rfl
@[simp] theorem State.ask_store (r : Requester) : (s.ask r).store = s.store := rfl
@[simp] theorem State.write_store (r : JournalRecord) (o : Requester) : (s.write r o).store = s.store := rfl
@[simp] theorem State.darken_store : (s.darken i).store = s.store := rfl
@[simp] theorem State.joinSlip_store (slip : Slip) : (s.joinSlip slip).store = s.store := rfl
@[simp] theorem State.endWait_store : (s.endWait i).store = s.store := rfl
@[simp] theorem State.settleSlip_store (o : SlipOutcome) : (s.settleSlip i o).store = s.store := rfl
@[simp] theorem State.restartIdle_store : (s.restartIdle i).store = s.store := rfl
@[simp] theorem State.takeScan_store (scan : ScanRecord) : (s.takeScan i scan).store = s.store := rfl
@[simp] theorem State.sendToEngine_store (scan : ScanRecord) (task : Task) (cls : RequestClass) :
    (s.sendToEngine i scan task cls).store = s.store := rfl
@[simp] theorem State.reprint_store : s.reprint.2.store = s.store := rfl
@[simp] theorem State.popRequest_store : s.popRequest.store = s.store := rfl

@[simp] theorem State.display_store (o : OutcomeKind) : (s.display i o).store = s.store :=
  State.store_eq_of (State.display_journal ..) (State.display_loans ..)
@[simp] theorem State.discardScans_store : (s.discardScans i).store = s.store :=
  State.store_eq_of (State.discardScans_journal ..) (State.discardScans_loans ..)
@[simp] theorem State.countLinkError_store : s.countLinkError.store = s.store :=
  State.store_eq_of (State.countLinkError_journal ..) (State.countLinkError_loans ..)
@[simp] theorem State.wandComplete_store (c : WandChar) : (s.wandComplete i c).store = s.store :=
  State.store_eq_of (State.wandComplete_journal ..) (State.wandComplete_loans ..)
@[simp] theorem State.assemblerStep_store : (s.assemblerStep i).store = s.store :=
  State.store_eq_of (State.assemblerStep_journal ..) (State.assemblerStep_loans ..)
@[simp] theorem State.fragment_store : (s.fragment i).store = s.store :=
  State.store_eq_of (State.fragment_journal ..) (State.fragment_loans ..)
@[simp] theorem State.clearConditions_store (mask : BitVec 32) : (s.clearConditions mask).store = s.store :=
  State.store_eq_of (State.clearConditions_journal ..) (State.clearConditions_loans ..)
@[simp] theorem State.resumePrinter_store : s.resumePrinter.2.store = s.store :=
  State.store_eq_of (State.resumePrinter_journal ..) (State.resumePrinter_loans ..)
@[simp] theorem State.latchFor_store (c : Option Condition) : (s.latchFor c).store = s.store :=
  State.store_eq_of (State.latchFor_journal ..) (State.latchFor_loans ..)
@[simp] theorem State.displayFor_store (o : Option OutcomeKind) : (s.displayFor i o).store = s.store :=
  State.store_eq_of (State.displayFor_journal ..) (State.displayFor_loans ..)
@[simp] theorem State.setClock_store : s.setClock.store = s.store :=
  State.store_eq_of (State.setClock_journal ..) (State.setClock_loans ..)
@[simp] theorem State.configureSent_store (rate : Nat) : (s.configureSent rate).store = s.store :=
  State.store_eq_of (State.configureSent_journal ..) (State.configureSent_loans ..)
@[simp] theorem State.transmit_store : s.transmit.store = s.store :=
  State.store_eq_of (State.transmit_journal ..) (State.transmit_loans ..)
@[simp] theorem settle_store (t : State) : (settle s t).store = t.store :=
  State.store_eq_of (settle_journal ..) (settle_loans ..)

/-! ### Closing a session and changing a mode (R25, R43 to R46) -/

@[simp] theorem State.slipSettled_store (slip : Slip) (o : SlipOutcome) : (s.slipSettled i slip o).store = s.store := by
  unfold State.slipSettled
  split <;> rfl

@[simp] theorem State.offer_store (slip : Slip) : (s.offer i slip).store = s.store := by
  unfold State.offer
  split
  · simp
  · split <;> simp

@[simp] theorem State.beginClose_store (shown : Option OutcomeKind) : (s.beginClose i shown).store = s.store := by
  cases shown with
  | none => simp only [State.beginClose]; split <;> simp
  | some o => simp only [State.beginClose]; split <;> simp

@[simp] theorem State.closeFromOutside_store : (s.closeFromOutside i).store = s.store := by
  unfold State.closeFromOutside
  split <;> simp

@[simp] theorem State.modeChanged_store (before : Mode) : (s.modeChanged i before).store = s.store := by
  unfold State.modeChanged
  repeat' split
  all_goals simp

@[simp] theorem State.setMode_store (m : Mode) : (s.setMode i m).store = s.store :=
  State.modeChanged_store ..

@[simp] theorem State.dropWaiting_store (slip : Slip) : (s.dropWaiting i slip).store = s.store := by
  simp [State.dropWaiting]

@[simp] theorem State.takeWaiting_store (slip : Slip) : (s.takeWaiting i slip).store = s.store := by
  simp [State.takeWaiting]

/-! ### The arbiter's grant (R28 to R42) -/

@[simp] theorem State.command_store (n : Nat) : (s.command i n).store = s.store := by
  unfold State.command
  split
  · split <;> simp
  all_goals simp

@[simp] theorem State.commandCard_store (n : Nat) : (s.commandCard i n).store = s.store := by
  unfold State.commandCard
  split <;> simp

@[simp] theorem State.grantIdle_store (scan : ScanRecord) : (s.grantIdle i scan).store = s.store := by
  unfold State.grantIdle
  repeat' split
  all_goals simp

@[simp] theorem State.grantOpen_store (scan : ScanRecord) : (s.grantOpen i scan).store = s.store := by
  unfold State.grantOpen
  repeat' split
  all_goals simp

@[simp] theorem State.grant_store : s.grant.store = s.store := by
  unfold State.grant
  split
  · split
    · rfl
    · split
      · rfl
      · dsimp only
        split
        · exact State.grantIdle_store ..
        · exact State.grantOpen_store ..
        · rfl
  · rfl

/-! ### Decisions and turns (R50, R133 to R136) -/

@[simp] theorem State.offerHold_store (slip : Option Slip) : (s.offerHold i slip).store = s.store := by
  unfold State.offerHold
  repeat' split
  all_goals simp

@[simp] theorem State.closeAfter_store (opened : Bool) : (s.closeAfter i opened).store = s.store := by
  by_cases h : s.ClosesAfter i opened
  · rw [State.closeAfter_of_closes h, State.beginClose_store]
  · rw [State.closeAfter_of_stays h]

@[simp] theorem State.applyVerdict_store (d : Decision) (v : Verdict) (sequence : Nat) : (s.applyVerdict d v sequence).store = s.store := by
  simp only [State.applyVerdict, State.closeAfter_store, State.offerHold_store, State.displayFor_store, State.latchFor_store,
    State.onSession_store]
  rfl

@[simp] theorem State.serveEngine_store (recorded : Bool) : (s.serveEngine recorded).store = s.store := by
  unfold State.serveEngine
  split
  · rfl
  · dsimp only
    split
    · rfl
    · exact State.applyVerdict_store ..

@[simp] theorem State.serveClock_store : s.serveClock.store = s.store := by
  unfold State.serveClock
  repeat' split
  all_goals rfl

@[simp] theorem State.serveRecorded_store (r : Requester) : (s.serveRecorded r).store = s.store := by
  cases r with
  | engine => exact State.serveEngine_store ..
  | patch =>
    simp only [State.serveRecorded]
    split <;> rfl
  | clock => exact State.serveClock_store s
  | commit | close | restart => rfl

@[simp] theorem State.turn_store : s.turn.store = s.store := by
  unfold State.turn
  split
  · split
    · rfl
    · split
      · simp
      · simp
      · rfl
  · rfl

/-! ### Tables, configuration and start (R112, R184, R192) -/

@[simp] theorem State.endValidation_store : s.endValidation.store = s.store := by
  unfold State.endValidation
  split <;> rfl

theorem State.stationStored_store (old : State) : (State.stationStored old s i).store = s.store := by
  unfold State.stationStored State.lineChanged
  rw [State.modeChanged_store]
  split <;> simp

@[simp] theorem State.rateStored_store : s.rateStored.store = s.store := by
  unfold State.rateStored
  split <;> rfl

@[simp] theorem State.configureDone_store (c : ConfigRecord) : (s.configureDone c).store = s.store := by
  unfold State.configureDone
  rw [State.rateStored_store]
  refine List.foldlRecOn (motive := fun t : State => t.store = s.store) _ _ ?_ fun t ht i _ => ?_
  · rfl
  · exact (State.stationStored_store t i s).trans ht

@[simp] theorem State.resetReleased_store : s.resetReleased.store = s.store := by
  unfold State.resetReleased
  dsimp only
  split <;> rfl

end

/-! ### The journal's store (R130, R139 to R144) -/

/-- The journal's part of the canonical form. -/
def Journal.StoreWf (j : Journal) : Prop :=
  slotsWf j.slots = true ∧ (∀ p ∈ j.eraseQueue, p < pageCount) ∧ ∀ p ∈ j.eraseMarker, p < pageCount

/-- The Local Loan List in strictly ascending item order (R64). -/
def LoansWf (l : List LoanEntry) : Prop := (l.map (·.item)).Pairwise (· < ·)

theorem State.storeWf_iff (s : State) : s.StoreWf ↔ s.journal.StoreWf ∧ LoansWf s.loans := by
  simp only [State.StoreWf, Journal.StoreWf, LoansWf, strictlyAscending_iff, and_assoc]

section
variable {j : Journal}

theorem mem_ringFrom_lt {first p : Nat} (h : p ∈ ringFrom first) : p < pageCount := by
  obtain ⟨k, -, rfl⟩ := List.mem_map.mp h
  exact Nat.mod_lt _ (by decide)

theorem Journal.releasePage_storeWf (h : j.StoreWf) {p : Nat} (hp : p < pageCount) : (j.releasePage p).StoreWf := by
  obtain ⟨hslots, hqueue, hmarker⟩ := h
  obtain e | e := j.releasePage_cases p <;> rw [e]
  · exact ⟨hslots, hqueue, hmarker⟩
  · refine ⟨hslots, fun q hq => ?_, hmarker⟩
    obtain hq | hq := List.mem_append.mp hq
    · exact hqueue q hq
    · rw [List.mem_singleton.mp hq]
      exact hp

theorem Journal.releasePages_storeWf (h : j.StoreWf) : j.releasePages.StoreWf :=
  List.foldlRecOn (motive := Journal.StoreWf) _ _ h fun _ hk _ hp => Journal.releasePage_storeWf hk (mem_ringFrom_lt hp)

theorem Journal.releaseThrough_storeWf (h : j.StoreWf) (r : Nat) : (j.releaseThrough r).StoreWf := by
  unfold Journal.releaseThrough
  split
  · exact Journal.releasePages_storeWf (j := { j with released := r }) h
  · exact h

/-- The record lands in the head slot, and the first of a page tests the page before it (R130, R139). -/
theorem Journal.complete_storeWf (h : j.StoreWf) (r : JournalRecord) : (j.complete r).StoreWf := by
  obtain ⟨hslots, hrest⟩ := h
  have hwritten : ({ j with slots := putSlot j.headSlot (.record r) j.slots, lastComplete := r.sequence } : Journal).StoreWf :=
    ⟨slotsWf_putSlot (headSlot_lt j) _ hslots, hrest⟩
  unfold Journal.complete
  dsimp only
  split
  · refine Journal.releasePage_storeWf ?_ (Nat.mod_lt _ (by decide))
    exact hwritten
  · split
    · exact hwritten
    · exact hwritten

theorem Journal.startErase_storeWf (h : j.StoreWf) : j.startErase.StoreWf := by
  obtain ⟨hslots, hqueue, hmarker⟩ := h
  unfold Journal.startErase
  split
  · next p rest _ hq =>
    rw [hq] at hqueue
    refine ⟨hslots, fun q hq => hqueue q (List.mem_cons_of_mem _ hq), ?_⟩
    rintro _ ⟨⟩
    exact hqueue p (List.mem_cons_self ..)
  · exact ⟨hslots, hqueue, hmarker⟩

theorem Journal.endErase_storeWf (h : j.StoreWf) : j.endErase.StoreWf := by
  obtain ⟨hslots, hqueue, hmarker⟩ := h
  unfold Journal.endErase
  split
  · exact ⟨slotsWf_blankPage _ hslots, hqueue, fun _ hp => by cases hp⟩
  · exact ⟨hslots, hqueue, hmarker⟩

/-- Recovery leaves no marker and queues pages of the ring alone (R143, R144). -/
theorem Journal.recover_storeWf (h : j.StoreWf) : j.recover.StoreWf := by
  obtain ⟨hslots, -, -⟩ := h
  exact ⟨Journal.slotsWf_recover j hslots, fun _ hp => mem_ringFrom_lt (List.mem_filter.mp hp).1, fun _ hp => by cases hp⟩

theorem Journal.cut_storeWf (h : j.StoreWf) (left : SlotCut) : (j.cut left).StoreWf := by
  obtain ⟨hslots, hrest⟩ := h
  have hput := fun v => slotsWf_putSlot (headSlot_lt j) v hslots
  unfold Journal.cut
  split
  · split
    · exact ⟨hslots, hrest⟩
    · exact ⟨hput _, hrest⟩
    · exact ⟨hput _, hrest⟩
  · exact ⟨hslots, hrest⟩

/-- What is not nonvolatile is empty at a start (R145). -/
theorem Journal.afterReset_storeWf (h : j.StoreWf) : j.afterReset.StoreWf := by
  obtain ⟨hslots, -, hmarker⟩ := h
  exact ⟨hslots, fun _ hp => (List.not_mem_nil hp).elim, hmarker⟩

theorem Journal.dropTorn_storeWf (h : j.StoreWf) : j.dropTorn.StoreWf := by
  obtain ⟨hslots, hrest⟩ := h
  exact ⟨slotsWf_filter _ hslots, hrest⟩

end

/-! ### The Local Loan List (R64, R137) -/

theorem loansWf_nil : LoansWf [] := List.Pairwise.nil

/-- A record's effect keeps the order: an entry put at its place, changed under its item, or removed. -/
theorem applyToLoans_loansWf {l : List LoanEntry} (h : LoansWf l) (r : JournalRecord) : LoansWf (applyToLoans r l) := by
  unfold applyToLoans
  split
  · exact ascending_upsert _ _ h
  · have hitems : ∀ e : LoanEntry, (if e.item = r.item then
        { e with sequence := r.sequence, dueDay := r.dueDay, dueMinute := r.dueMinute, renewals := r.aux1, override := r.flags.override }
        else e).item = e.item := fun e => by split <;> rfl
    simpa [LoansWf, Function.comp_def, hitems] using h
  · exact ascending_removeKey _ _ h
  · exact h

theorem replayLoans_loansWf (rs : List JournalRecord) : LoansWf (replayLoans rs []) :=
  List.foldlRecOn (motive := LoansWf) _ _ loansWf_nil fun _ hl r _ => applyToLoans_loansWf hl r

/-! ### Operations that change the store -/

section
variable {s : State}

theorem State.recordEffects_storeWf (h : s.StoreWf) (r : JournalRecord) : (s.recordEffects r).StoreWf := by
  obtain ⟨hj, hl⟩ := s.storeWf_iff.mp h
  exact (State.storeWf_iff _).mpr ⟨Journal.complete_storeWf hj r, applyToLoans_loansWf hl r⟩

theorem State.ownerEffects_storeWf (h : s.StoreWf) (r : JournalRecord) (o : Requester) : (s.ownerEffects r o).StoreWf := by
  obtain ⟨hj, -⟩ := s.storeWf_iff.mp h
  cases o with
  | engine =>
    simp only [State.ownerEffects]
    split
    · exact h.of_store (State.applyVerdict_store ..)
    · exact h
  | commit => exact (State.storeWf_iff _).mpr ⟨hj, loansWf_nil⟩
  | clock => exact h.of_store (State.setClock_store s)
  | close i => exact h.of_store (State.discardScans_store ..)
  | patch | restart => exact h

theorem State.completeWrite_storeWf (h : s.StoreWf) : s.completeWrite.StoreWf := by
  unfold State.completeWrite
  split
  · exact State.ownerEffects_storeWf (State.recordEffects_storeWf h _) _ _
  · exact h

theorem State.endReplay_storeWf (h : s.StoreWf) : s.endReplay.StoreWf := by
  obtain ⟨hj, -⟩ := s.storeWf_iff.mp h
  have hreplayed : s.replayed.StoreWf := (State.storeWf_iff _).mpr ⟨hj, replayLoans_loansWf _⟩
  unfold State.endReplay
  dsimp only
  split
  · repeat' split
    all_goals exact hreplayed
  · exact h

theorem State.recovered_storeWf (h : s.StoreWf) : s.recovered.StoreWf := by
  obtain ⟨hj, -⟩ := s.storeWf_iff.mp h
  exact (State.storeWf_iff _).mpr ⟨Journal.recover_storeWf hj, loansWf_nil⟩

theorem State.eraseDone_storeWf (h : s.StoreWf) : s.eraseDone.StoreWf := by
  obtain ⟨hj, hl⟩ := s.storeWf_iff.mp h
  refine (State.storeWf_iff _).mpr ⟨?_, hl⟩
  have herased := Journal.endErase_storeWf hj
  unfold State.eraseDone
  dsimp only
  split
  · exact herased
  · exact herased

theorem State.resetBlocks_storeWf (h : s.StoreWf) : s.resetBlocks.StoreWf := by
  obtain ⟨hj, -⟩ := s.storeWf_iff.mp h
  exact (State.storeWf_iff _).mpr ⟨Journal.afterReset_storeWf hj, loansWf_nil⟩

theorem State.repaired_storeWf (h : s.StoreWf) : s.repaired.StoreWf := by
  obtain ⟨hj, hl⟩ := s.storeWf_iff.mp h
  unfold State.repaired
  split
  · exact (State.storeWf_iff _).mpr ⟨Journal.dropTorn_storeWf hj, hl⟩
  · exact h

theorem State.restartNow_storeWf (h : s.StoreWf) : s.restartNow.StoreWf := by
  obtain e | ⟨e, -⟩ := State.restartNow_cases s <;> rw [e]
  · exact h
  · exact State.resetBlocks_storeWf h

theorem State.enterReset_storeWf (h : s.StoreWf) : s.enterReset.StoreWf := by
  have hreset := State.resetBlocks_storeWf (State.repaired_storeWf h)
  obtain e | ⟨e, -⟩ | ⟨e, -⟩ := State.enterReset_cases s <;> rw [e]
  · exact h
  · exact hreset
  · exact hreset

theorem State.losePower_storeWf (h : s.StoreWf) (left : SlotCut) (stored : Bool) : (s.losePower left stored).StoreWf := by
  obtain ⟨hj, hl⟩ := s.storeWf_iff.mp h
  unfold State.losePower
  split
  · exact h
  · exact (State.storeWf_iff _).mpr ⟨Journal.cut_storeWf hj left, hl⟩

/-! ### Requests and the link (R173 to R182) -/

theorem State.answerJournalRelease_storeWf (h : s.StoreWf) (through : Nat) : (s.answerJournalRelease through).state.StoreWf := by
  obtain ⟨hj, hl⟩ := s.storeWf_iff.mp h
  exact (State.storeWf_iff _).mpr ⟨Journal.releaseThrough_storeWf hj _, hl⟩

theorem State.answerStationControl_store (s : State) (station action mode : Byte) :
    (s.answerStationControl station action mode).state.store = s.store := by
  unfold State.answerStationControl
  repeat' split
  all_goals simp [State.done, State.deny]

theorem State.answerPrinter_store (s : State) (action : Nat) : (s.answerPrinter action).state.store = s.store := by
  unfold State.answerPrinter
  split
  · rfl
  · split
    · exact State.resumePrinter_store s
    · rfl
  · rfl
  · exact State.reprint_store s
  · rfl

theorem State.answerClear_store (s : State) (mask : BitVec 32) : (s.answerClear mask).state.store = s.store := by
  unfold State.answerClear
  split
  · rfl
  · exact State.clearConditions_store s mask

/-- Only Journal Release reaches the store (R149). -/
theorem State.serve_storeWf (h : s.StoreWf) (r : Request) : (s.serve r).state.StoreWf := by
  cases r with
  | journalRelease => exact State.answerJournalRelease_storeWf h _
  | stationControl => exact h.of_store (State.answerStationControl_store ..)
  | printerControl => exact h.of_store (State.answerPrinter_store ..)
  | clearConditions => exact h.of_store (State.answerClear_store ..)
  | readEntry => exact h.of_store (by rw [State.serve, State.answerReadEntry_state])
  | access | leave | configureRead | journalRead | setCodes | setCodesEmpty | restart => exact h
  | statusRead =>
    simp only [State.serve, State.statusRead]
    split <;> exact h
  | clockSet | clockAdjust | configure =>
    simp only [State.serve, State.answerClockSet, State.answerClockAdjust, State.answerConfigure]
    repeat' split
    all_goals exact h
  | beginTable | loadEntries | endTable | abortLoad =>
    simp only [State.serve, State.answerBeginTable, State.answerLoadEntries, State.answerEndTable, State.answerAbortLoad]
    repeat' split
    all_goals exact h
  | copyTable | commitSet | patchBorrower | patchItem | setProtection =>
    simp only [State.serve, State.answerCopyTable, State.answerCommitSet, State.answerPatch, State.answerSetProtection]
    repeat' split
    all_goals exact h

theorem State.takeFrame_storeWf (h : s.StoreWf) (type : Nat) (p : Parsed) : (s.takeFrame type p).StoreWf := by
  obtain e | ⟨e, -⟩ | ⟨e, -⟩ := State.takeFrame_cases s type p <;> rw [e]
  · exact h
  · exact h.of_store (State.countLinkError_store s)
  · obtain ⟨st, ea⟩ | ⟨r, -, -, ea⟩ := State.answer_cases s type p <;> rw [ea]
    · exact h
    · exact State.serve_storeWf h r

theorem State.linkCharacter_storeWf (h : s.StoreWf) (b : Byte) (stop : Bool) : (s.linkCharacter b stop).StoreWf := by
  have hkept : State.StoreWf { s with link := (s.link.receive b).1 } := h
  obtain e | e | ⟨e, -⟩ | ⟨e, -⟩ | ⟨type, payload, -, e⟩ := State.linkCharacter_cases s b stop <;> rw [e]
  · exact h
  · exact h
  · exact h
  · exact hkept.of_store (State.countLinkError_store _)
  · exact State.takeFrame_storeWf hkept _ _

theorem State.afterFrame_storeWf (h : s.StoreWf) (item : TxItem) : (s.afterFrame item).StoreWf := by
  unfold State.afterFrame
  split
  · exact h
  · split
    · exact h
    · unfold State.restartSent
      split
      · exact State.restartNow_storeWf (s := { s with life := .waitRestart, link := { s.link with tx := [] } }) h
      · exact h
    · exact h.of_store (State.configureSent_store ..)

theorem State.frameSent_storeWf (h : s.StoreWf) : s.frameSent.StoreWf := by
  unfold State.frameSent
  split
  · exact State.afterFrame_storeWf (s := { s with link := { s.link with sending := none } }) h _
  · exact h

end

/-! ### Every command -/

theorem storeWf_of_finish {s t u : State} (h : u.StoreWf) (e : finish s u = .next t) : t.StoreWf := by
  rw [finish_next] at e
  cases e
  exact h.of_store (settle_store s u)

theorem storeWf_of_finishStore {s t u : State} (h : u.StoreWf) (e : finishStore s u = .next t) : t.StoreWf :=
  storeWf_of_finish (State.restartNow_storeWf (h.of_store (settle_store s u))) e

/-- A guarded effect keeps the canonical form when the effect does. -/
theorem storeWf_ite {s u : State} {c : Prop} [Decidable c] (h : s.StoreWf) (hu : u.StoreWf) : (if c then u else s).StoreWf := by
  split
  · exact hu
  · exact h

theorem exec_keeps_storeWf {s t : State} (c : Instr) (h : s.StoreWf) (e : exec c s = .next t) : t.StoreWf := by
  cases c with
  | wandCharacterComplete i => exact storeWf_of_finish (storeWf_ite h (h.of_store (State.wandComplete_store ..))) e
  | assemblerStep i => exact storeWf_of_finish (storeWf_ite h (h.of_store (State.assemblerStep_store ..))) e
  | gapTimerExpiry i => exact storeWf_of_finish (storeWf_ite h (h.of_store (State.fragment_store ..))) e
  | selectorChange i level =>
    exact storeWf_of_finish (storeWf_ite (s := s.selectorPin i level) (u := (s.selectorPin i level).selectorMoved i level) h
      (h.of_store (State.modeChanged_store ..))) e
  | arbiterGrant => exact storeWf_of_finish (h.of_store (State.grant_store s)) e
  | idleTimerExpiry i => exact storeWf_of_finish (storeWf_ite h (h.of_store (State.beginClose_store ..))) e
  | slipWaitExpiry i =>
    refine storeWf_of_finish ?_ e
    split
    · exact h.of_store (State.dropWaiting_store ..)
    · exact h
  | slipReoffer i =>
    refine storeWf_of_finish ?_ e
    split
    · exact h.of_store (State.takeWaiting_store ..)
    · exact h
  | journalTurn => exact storeWf_of_finish (h.of_store (State.turn_store s)) e
  | recordWriteCompletion => exact storeWf_of_finishStore (State.completeWrite_storeWf h) e
  | replayEnd => exact storeWf_of_finish (State.endReplay_storeWf h) e
  | eraseStart =>
    obtain ⟨hj, hl⟩ := s.storeWf_iff.mp h
    have hbegun : State.StoreWf { s with journal := s.journal.startErase } :=
      (State.storeWf_iff _).mpr ⟨Journal.startErase_storeWf hj, hl⟩
    exact storeWf_of_finish (storeWf_ite h hbegun) e
  | eraseComplete => exact storeWf_of_finishStore (storeWf_ite h (State.eraseDone_storeWf h)) e
  | copyEnd =>
    refine storeWf_of_finish ?_ e
    split <;> exact h
  | validationEnd => exact storeWf_of_finish (storeWf_ite h (h.of_store (State.endValidation_store s))) e
  | configureStoreComplete =>
    refine storeWf_of_finishStore ?_ e
    split
    · exact h.of_store (State.configureDone_store ..)
    · exact h
  | linkCharacter b stop => exact storeWf_of_finish (State.linkCharacter_storeWf h b stop) e
  | transmitFrameStart => exact storeWf_of_finish (h.of_store (State.transmit_store s)) e
  | transmitFrameEnd => exact storeWf_of_finish (State.frameSent_storeWf h) e
  | powerOn => exact storeWf_of_finish (storeWf_ite (u := s.powerOn) h (State.resetBlocks_storeWf h)) e
  | resetEntered => exact storeWf_of_finish (State.enterReset_storeWf h) e
  | resetLineAssert => exact storeWf_of_finish (u := s.resetAsserted) h e
  | resetLineRelease => exact storeWf_of_finish (h.of_store (State.resetReleased_store s)) e
  | recoveryComplete => exact storeWf_of_finish (storeWf_ite h (State.recovered_storeWf h)) e
  | powerLoss left stored => exact storeWf_of_finish (State.losePower_storeWf h left stored) e
  | wandCharacterStart | wandWaitMarkEnd | outcomePatternTimer | outcomePatternEnd | staffWindowExpiry | paperOutChange
  | maintenanceChange | timebaseEdge | timebaseLoss | printerByteAccepted | printerReadyChange | printerStallExpiry | linkGapTimeout
  | linkWaitMarkEnd | linkBreak =>
    exact storeWf_of_finish (by split <;> exact h) e
  | _ => exact storeWf_of_finish (State.takeFrame_storeWf h _ _) e

/-- Settles O59: an operation leaves the store as it is or keeps its canonical form, and a step is a command or nothing. -/
theorem stepsKeepStore : Obligations.StepsKeepStore := by
  intro s t h e
  unfold step at e
  split at e
  · cases e
    exact h
  · next c rest _ => exact exec_keeps_storeWf (s := { s with pending := rest }) c h e

end Sys2Proof.Machine
end

section
/-! SUPPORT. A loan evaluation (R51 to R65): the search for the first failing check that is not overridden, what each check of R53 asks, and the
refusal, duplicate or grant that follows. -/

namespace Sys2Proof.Machine

open Config

/-! ### The search (R53, R62) -/

/-- Every check that fails has its reason overridden. -/
def Passes (overridden : List Reason) (checks : List (Prop × Reason)) : Prop := ∀ c ∈ checks, c.1 → c.2 ∈ overridden

/-- A reason is that of the first check that fails and is not overridden. -/
def FirstFails (overridden : List Reason) (checks : List (Prop × Reason)) (r : Reason) : Prop :=
  ∃ before after c, checks = before ++ (c, r) :: after ∧ Passes overridden before ∧ c ∧ r ∉ overridden

/-- The search over the model's checks finds what the stated checks say, whatever is overridden. -/
def Decides (stated : List (Prop × Reason)) (checks : List (Option Reason)) : Prop :=
  ∀ overridden, (Passes overridden stated → firstFailing overridden checks = none)
    ∧ ∀ r, FirstFails overridden stated r → firstFailing overridden checks = some r

section
variable {overridden : List Reason} {c : Prop} {b : Bool} {r : Reason} {stated : List (Prop × Reason)} {checks : List (Option Reason)}

theorem passes_cons : Passes overridden ((c, r) :: stated) ↔ (c → r ∈ overridden) ∧ Passes overridden stated :=
  List.forall_mem_cons

theorem FirstFails.of_cons {q : Reason} (h : FirstFails overridden ((c, r) :: stated) q) :
    (c ∧ r = q ∧ r ∉ overridden) ∨ (c → r ∈ overridden) ∧ FirstFails overridden stated q := by
  obtain ⟨before, after, p, heq, hbefore, hp, hq⟩ := h
  cases before with
  | nil =>
    simp only [List.nil_append, List.cons.injEq, Prod.mk.injEq] at heq
    obtain ⟨⟨rfl, rfl⟩, -⟩ := heq
    exact .inl ⟨hp, rfl, hq⟩
  | cons a before =>
    simp only [List.cons_append, List.cons.injEq] at heq
    obtain ⟨rfl, rfl⟩ := heq
    obtain ⟨hfirst, hrest⟩ := passes_cons.mp hbefore
    exact .inr ⟨hfirst, before, after, p, rfl, hrest, hp, hq⟩

theorem firstFailing_none_cons : firstFailing overridden (none :: checks) = firstFailing overridden checks := rfl

theorem firstFailing_some_cons :
    firstFailing overridden (some r :: checks) = if r ∈ overridden then firstFailing overridden checks else some r := by
  by_cases h : r ∈ overridden <;> simp [firstFailing, Option.filter_some, h]

/-- With nothing overridden the search finds nothing exactly when no check fails. -/
theorem firstFailing_nil_eq_none : firstFailing [] checks = none ↔ ∀ o ∈ checks, o = none := by
  induction checks with
  | nil => simp [firstFailing]
  | cons o rest ih =>
    cases o with
    | none => rw [firstFailing_none_cons, ih]; simp
    | some r => rw [firstFailing_some_cons]; simp

theorem failing_eq_none : failing b r = none ↔ b = false := by cases b <;> simp [failing]

theorem decides_nil : Decides [] [] := by
  refine fun _ => ⟨fun _ => rfl, ?_⟩
  rintro r ⟨before, after, c, heq, -⟩
  simp at heq

/-- A stated check that does not fail may be left out. -/
theorem Decides.skip (hc : ¬c) (h : Decides stated checks) : Decides ((c, r) :: stated) checks := by
  refine fun overridden => ⟨fun hpass => ?_, fun q hfail => ?_⟩
  · exact (h overridden).1 (passes_cons.mp hpass).2
  · obtain ⟨hc', -⟩ | ⟨-, hrest⟩ := hfail.of_cons
    · exact absurd hc' hc
    · exact (h overridden).2 q hrest

/-- So may a check of the model that does not fail. -/
theorem Decides.none (h : Decides stated checks) : Decides stated (none :: checks) := h

/-- A stated check beside the model's check of the same condition and reason. -/
theorem Decides.check (hb : b = true ↔ c) (h : Decides stated checks) : Decides ((c, r) :: stated) (failing b r :: checks) := by
  by_cases hc : c
  · have hfailing : failing b r = some r := if_pos (hb.mpr hc)
    refine fun overridden => ⟨fun hpass => ?_, fun q hfail => ?_⟩
    · obtain ⟨hfirst, hrest⟩ := passes_cons.mp hpass
      rw [hfailing, firstFailing_some_cons, if_pos (hfirst hc)]
      exact (h overridden).1 hrest
    · obtain ⟨-, rfl, hr⟩ | ⟨hfirst, hrest⟩ := hfail.of_cons
      · rw [hfailing, firstFailing_some_cons, if_neg hr]
      · rw [hfailing, firstFailing_some_cons, if_pos (hfirst hc)]
        exact (h overridden).2 q hrest
  · have hfailing : failing b r = Option.none := if_neg (mt hb.mp hc)
    rw [hfailing]
    exact h.none.skip hc

end

/-! ### The figures (R52) and the checks of an exception and of a list entry (R56, R58) -/

theorem cast_effectiveLimit (c : Category) (b : Borrower) :
    (effectiveLimit c b : Int) = max 0 (min 99 (c.loanLimit + b.limitAdjust)) := by
  simp only [effectiveLimit, clampTo]
  omega

theorem cast_effectiveThreshold (c : Category) (b : Borrower) :
    (effectiveThreshold c b : Int) = max 0 (min 65535 (c.threshold + b.thresholdAdjust)) := by
  simp only [effectiveThreshold, clampTo]
  omega

/-- An entry is a hold in force unless its shelf time has lapsed (R56). -/
theorem ItemException.holds_iff (e : ItemException) (today : Nat) :
    e.holds today = true ↔ e.state = .holdWaiting ∨ e.state = .holdOnShelf ∧ today ≤ e.holdExpiry.getD 0 := by
  cases hstate : e.state <;> simp [ItemException.holds, ItemException.lapsed, hstate]

theorem holdFilling_eq (e : Option ItemException) (card today : Nat) :
    holdFilling e card today
      = ((e.any fun e => e.state = .holdWaiting ∨ e.state = .holdOnShelf ∧ today ≤ e.holdExpiry.getD 0)
          && (e.map (·.holdCard)).getD 0 == card) := by
  cases e with
  | none => rfl
  | some e => rw [Bool.eq_iff_iff]; simp [holdFilling, ItemException.holds_iff]

/-- Check 9 as four checks, of which a state of the entry makes at most one fail (R56). -/
theorem decides_exceptionCheck {stated : List (Prop × Reason)} {checks : List (Option Reason)} (h : Decides stated checks)
    (e : Option ItemException) (card today : Nat) :
    Decides
      (((e.map (·.state)) = some .notForLoan, .notForLoan) :: ((e.map (·.state)) = some .missing, .itemAlert)
        :: ((e.map (·.state)) = some .onLoanElsewhere, .onLoan)
        :: ((e.any fun e => e.state = .holdWaiting ∨ e.state = .holdOnShelf ∧ today ≤ e.holdExpiry.getD 0) = true
            ∧ (e.map (·.holdCard)).getD 0 ≠ card, .held) :: stated)
      (exceptionCheck e card today :: checks) := by
  cases e with
  | none => exact .skip (by simp) (.skip (by simp) (.skip (by simp) (.skip (by simp) h.none)))
  | some e =>
    have hheld : (e.holds today && e.holdCard != card) = true ↔
        ((some e).any fun e => e.state = .holdWaiting ∨ e.state = .holdOnShelf ∧ today ≤ e.holdExpiry.getD 0) = true
          ∧ ((some e).map (·.holdCard)).getD 0 ≠ card := by
      simp [ItemException.holds_iff]
    cases hstate : e.state with
    | notForLoan =>
      simp only [exceptionCheck, hstate]
      exact .check (b := true) (by simp [hstate])
        (.skip (by simp [hstate]) (.skip (by simp [hstate]) (.skip (by simp [hstate]) h)))
    | missing =>
      simp only [exceptionCheck, hstate]
      exact .skip (by simp [hstate])
        (.check (b := true) (by simp [hstate]) (.skip (by simp [hstate]) (.skip (by simp [hstate]) h)))
    | onLoanElsewhere =>
      simp only [exceptionCheck, hstate]
      exact .skip (by simp [hstate])
        (.skip (by simp [hstate]) (.check (b := true) (by simp [hstate]) (.skip (by simp [hstate]) h)))
    | holdWaiting | holdOnShelf =>
      simp only [exceptionCheck, hstate]
      exact .skip (by simp [hstate]) (.skip (by simp [hstate]) (.skip (by simp [hstate]) (.check hheld h)))

/-- Check 11 as two checks, of which at most one fails (R58). -/
theorem decides_renewalCheck {stated : List (Prop × Reason)} {checks : List (Option Reason)} (h : Decides stated checks)
    (e : Option LoanEntry) (card maximum : Nat) :
    Decides
      (((e.any fun e => e.card ≠ card) = true, .onLoan)
        :: ((e.any fun e => e.card = card) = true ∧ maximum ≤ (e.map (·.renewals)).getD 0, .renewLimit) :: stated)
      (renewalCheck e card maximum :: checks) := by
  cases e with
  | none => exact .skip (by simp) (.skip (by simp) h.none)
  | some e =>
    by_cases hcard : e.card = card
    · rw [renewalCheck, if_neg (by simpa using hcard)]
      exact .skip (by simp [hcard]) (.check (by simp [hcard]) h)
    · rw [renewalCheck, if_pos hcard]
      exact .check (b := true) (by simp [hcard]) (.skip (by simp [hcard]) h)

theorem exceptionCheck_eq_none {e : ItemException} {card today : Nat} (h : exceptionCheck (some e) card today = none) :
    e.holds today = true ∧ e.holdCard = card ∨ e.state = .holdOnShelf ∧ e.holdExpiry.getD 0 < today := by
  have hforCard : e.holds today = true → (e.state = .holdWaiting ∨ e.state = .holdOnShelf) → e.holdCard = card := fun hin hstate => by
    obtain hstate | hstate := hstate <;> simpa [exceptionCheck, hstate, failing_eq_none, hin] using h
  cases hstate : e.state with
  | notForLoan | missing | onLoanElsewhere => simp [exceptionCheck, hstate] at h
  | holdWaiting =>
    have hin := (e.holds_iff today).mpr (.inl hstate)
    exact .inl ⟨hin, hforCard hin (.inl hstate)⟩
  | holdOnShelf =>
    by_cases hlapsed : e.holdExpiry.getD 0 < today
    · exact .inr ⟨rfl, hlapsed⟩
    · have hin := (e.holds_iff today).mpr (.inr ⟨hstate, Nat.not_lt.mp hlapsed⟩)
      exact .inl ⟨hin, hforCard hin (.inr hstate)⟩

theorem renewalCheck_eq_none {e : LoanEntry} {card maximum : Nat} (h : renewalCheck (some e) card maximum = none) : e.card = card := by
  by_contra hne
  simp [renewalCheck, hne] at h

/-! ### The evaluation (R53, R57, R61, R71, R73) -/

theorem Clock.stamp_day (c : Clock) : c.stamp.day = if c.isSet then c.day else 65535 := by
  unfold Clock.stamp
  split <;> rfl

theorem Clock.stamp_minute (c : Clock) : c.stamp.minute = if c.isSet then c.minute else 0 := by
  unfold Clock.stamp
  split <;> rfl

theorem State.recordBase_eq (s : State) (kind : RecordKind) (station : Nat) :
    s.recordBase kind station
      = { sequence := s.journal.lastComplete + 1, day := if s.clock.isSet then s.clock.day else 65535,
          minute := if s.clock.isSet then s.clock.minute else 0, kind := kind, station := station, reason := 0,
          flags := { undated := !s.clock.isSet }, card := 0, item := 0, dueDay := 0, dueMinute := 0, aux0 := 0, aux1 := 0, aux2 := 0 } := by
  simp only [State.recordBase, Clock.stamp_day, Clock.stamp_minute, Journal.nextSequence]

section
variable {s : State} {d : Decision} {recorded : Bool} {item : Nat} {overridden : List Reason} {staff : Option Nat}
  {window : Option Window} {r : Reason}

/-- The refusal that ends a loan evaluation (R34, R73). -/
def State.loanRefusal (s : State) (d : Decision) (recorded : Bool) (item : Nat) (overridden : List Reason) (staff : Option Nat)
    (window : Option Window) (r : Reason) : Verdict :=
  s.refusal d recorded r d.card item staff (.set { item := item, reason := r, overridden := overridden }) window

/-- The renewal count of a grant's record (R61). -/
def renewalCount (e : Option LoanEntry) (card : Nat) : Nat :=
  match e with
  | some e => if e.card = card then min 15 (e.renewals + 1) else 0
  | none => 0

/-- One more than an own entry's count, at most 15, and 0 for any other grant. -/
theorem renewalCount_eq (e : Option LoanEntry) (card : Nat) :
    renewalCount e card = if e.any fun e => e.card = card then min 15 ((e.map (·.renewals)).getD 0 + 1) else 0 := by
  cases e <;> simp [renewalCount]

/-- The record of a grant, field by field (R61, R71). -/
def State.grantRecord (s : State) (d : Decision) (item : Nat) (k : LoanCase) (staff : Option Nat) : JournalRecord :=
  { sequence := s.journal.lastComplete + 1, day := if s.clock.isSet then s.clock.day else 65535,
    minute := if s.clock.isSet then s.clock.minute else 0,
    kind := if k.entry.any fun e => e.card == d.card then .renew else .loan, station := d.station.val, reason := 0,
    flags :=
      { (s.dueOf k).flags with
        undated := !s.clock.isSet, guest := d.guest, override := staff.isSome,
        transferred := k.entry.any fun e => e.card ≠ d.card, holdFilled := holdFilling k.exception d.card s.clock.day },
    card := d.card, item := item, dueDay := (s.dueOf k).day, dueMinute := (s.dueOf k).minute, aux0 := staff.getD 0,
    aux1 := renewalCount k.entry d.card, aux2 := 0 }

theorem State.grantOf_eq (k : LoanCase) :
    s.grantOf d item k staff window
      = { kind := if k.entry.any fun e => e.card == d.card then .renew else .loan, outcome := some .grant, lastRefusal := .clear,
          window := window, record := some (s.grantRecord d item k staff),
          granted := some
            { item := item, dueDay := (s.dueOf k).day, dueMinute := (s.dueOf k).minute,
              renewed := k.entry.any fun e => e.card == d.card } } := by
  have hothers : (k.entry.any fun e => decide (e.card ≠ d.card)) = k.entry.any fun e => e.card != d.card := by
    congr
    funext e
    exact decide_not
  rw [State.grantRecord, hothers, State.grantOf, State.recordBase_eq]
  rfl

theorem State.evaluateLoan_of_early_refusal
    (h : firstFailing overridden (s.checksTo9 d recorded (s.loanCase d item)) = some r) :
    s.evaluateLoan d recorded item overridden staff window = s.loanRefusal d recorded item overridden staff window r := by
  simp only [State.evaluateLoan, h]
  rfl

theorem State.evaluateLoan_of_duplicate (h : firstFailing overridden (s.checksTo9 d recorded (s.loanCase d item)) = none)
    (hdup : ∃ g ∈ s.sessions[d.station].granted, g.item = item) :
    s.evaluateLoan d recorded item overridden staff window
      = { kind := .duplicate, outcome := some .ack, lastRefusal := .clear, window := window } := by
  have hany : (s.sessions[d.station].granted.any fun g => g.item == item) = true := by simpa using hdup
  simp only [State.evaluateLoan, h, hany, if_true]

/-- Past check 9 and no duplicate, the evaluation goes on with checks 11 to 14 (R53, R57). -/
theorem State.evaluateLoan_of_later (h : firstFailing overridden (s.checksTo9 d recorded (s.loanCase d item)) = none)
    (hdup : ¬∃ g ∈ s.sessions[d.station].granted, g.item = item) :
    (∀ r, firstFailing overridden (s.checksFrom11 d (s.loanCase d item)) = some r →
        s.evaluateLoan d recorded item overridden staff window = s.loanRefusal d recorded item overridden staff window r)
      ∧ (firstFailing overridden (s.checksFrom11 d (s.loanCase d item)) = none →
        s.evaluateLoan d recorded item overridden staff window = s.grantOf d item (s.loanCase d item) staff window) := by
  have hany : (s.sessions[d.station].granted.any fun g => g.item == item) = false := by simpa using hdup
  constructor
  · intro r hlater
    simp only [State.evaluateLoan, h, hany, hlater]
    rfl
  · intro hlater
    simp only [State.evaluateLoan, h, hany, hlater]
    rfl

/-- A grant comes only of an evaluation in which no check fails (R53). -/
theorem State.evaluateLoan_granted {g : Granted} (h : (s.evaluateLoan d recorded item overridden staff window).granted = some g) :
    firstFailing overridden (s.checksTo9 d recorded (s.loanCase d item)) = none
      ∧ firstFailing overridden (s.checksFrom11 d (s.loanCase d item)) = none ∧ g.item = item := by
  cases hearly : firstFailing overridden (s.checksTo9 d recorded (s.loanCase d item)) with
  | some r =>
    rw [State.evaluateLoan_of_early_refusal hearly] at h
    cases h
  | none =>
    by_cases hdup : ∃ g ∈ s.sessions[d.station].granted, g.item = item
    · rw [State.evaluateLoan_of_duplicate hearly hdup] at h
      cases h
    · obtain ⟨hrefused, hgranted⟩ := State.evaluateLoan_of_later (staff := staff) (window := window) hearly hdup
      cases hlater : firstFailing overridden (s.checksFrom11 d (s.loanCase d item)) with
      | some r =>
        rw [hrefused r hlater] at h
        cases h
      | none =>
        rw [hgranted hlater] at h
        cases h
        exact ⟨rfl, rfl, rfl⟩

theorem State.evaluate_loanItem (h : d.task = .loanItem) :
    s.evaluate d recorded = s.evaluateLoan d recorded d.scan.ident [] none none := by
  simp only [State.evaluate, h]

/-- At an unrecorded turn one of the first four checks fails, the fourth at the latest (R51, R53). -/
theorem State.unrecorded_early_refusal (s : State) (d : Decision) (k : LoanCase) :
    ∃ r, firstFailing [] (s.checksTo9 d false k) = some r
      ∧ some r ∈ [some Reason.tablesInvalid, some Reason.clockUnset, some Reason.sessionFull, some Reason.journalFull] := by
  cases hvalid : s.tables.valid with
  | false => exact ⟨.tablesInvalid, by simp [State.checksTo9, firstFailing, failing, hvalid], by decide⟩
  | true =>
    cases hset : s.clock.isSet with
    | false => exact ⟨.clockUnset, by simp [State.checksTo9, firstFailing, failing, hvalid, hset], by decide⟩
    | true =>
      by_cases hfull : grantedLength ≤ s.sessions[d.station].granted.length
      · exact ⟨.sessionFull, by simp [State.checksTo9, firstFailing, failing, hvalid, hset, hfull, -Fin.getElem_fin], by decide⟩
      · exact ⟨.journalFull, by simp [State.checksTo9, firstFailing, failing, hvalid, hset, hfull, -Fin.getElem_fin], by decide⟩

end

/-- Settles O16: the stated checks decide what the model's checks do, and each end of the evaluation is what its equation says. -/
theorem loanChecksHold : Obligations.LoanChecksHold := by
  refine ⟨?_, fun s d recorded htask => State.evaluate_loanItem htask, fun s d htask => ?_, fun s d g htask hg => ?_⟩
  · intro s d recorded item overridden staff window t today guest found b category hold inForce holdCard entry own others cell limit
      threshold current stateIs upTo9 from11 passes firstFails duplicate base v
    have hupTo9 : Decides upTo9 (s.checksTo9 d recorded (s.loanCase d item)) := by
      refine .check ?_ (.check ?_ (.check ?_ (.check ?_ (.check ?_ (.check ?_ (.check ?_ (.check ?_
        (decides_exceptionCheck decides_nil hold d.card today))))))))
      · exact iff_of_eq (Bool.not_eq_true' ..)
      · exact iff_of_eq (Bool.not_eq_true' ..)
      · exact decide_eq_true_iff
      · exact iff_of_eq (Bool.not_eq_true' ..)
      · exact Option.isNone_iff_eq_none
      · rw [Bool.and_eq_true, bne_iff_ne, decide_eq_true_iff]
        rfl
      · rw [Bool.or_eq_true]
        rfl
      · rw [decide_eq_true_iff, ← Int.ofNat_lt, cast_effectiveThreshold]
        rfl
    have hfrom11 : Decides from11 (s.checksFrom11 d (s.loanCase d item)) := by
      refine decides_renewalCheck (.check ?_ (.check ?_ (.check ?_ decides_nil))) entry d.card cell.renewals
      · exact beq_iff_eq
      · rw [Bool.and_eq_true, Bool.not_eq_true', decide_eq_true_iff, ← Int.ofNat_lt, cast_effectiveLimit]
        rfl
      · rw [Bool.and_eq_true, Option.isNone_iff_eq_none, decide_eq_true_iff]
        rfl
    have hrefusal : ∀ r, s.loanRefusal d recorded item overridden staff window r
        = { kind := .refused, reason := some r, outcome := some .refusal, window := window, unrecorded := !recorded,
            lastRefusal := .set { item := item, reason := r, overridden := overridden },
            latch := if r = .itemAlert then some .itemAlert else none,
            record :=
              if recorded then
                some { base with
                  reason := r.code, flags := { undated := !s.clock.isSet, guest := d.guest, override := staff.isSome } }
              else none } := fun r => by
      rw [State.loanRefusal, State.refusal, State.recordBase_eq]
    refine ⟨fun r hr => ?_, fun hpass hdup => ?_, fun hpass hdup hlater => ?_⟩
    · rw [← hrefusal]
      obtain hfail | ⟨hpass, hdup, hfail⟩ := hr
      · exact State.evaluateLoan_of_early_refusal ((hupTo9 overridden).2 r hfail)
      · exact (State.evaluateLoan_of_later ((hupTo9 overridden).1 hpass) hdup).1 r ((hfrom11 overridden).2 r hfail)
    · exact State.evaluateLoan_of_duplicate ((hupTo9 overridden).1 hpass) hdup
    · intro c expiry due
      have hgrant : v = s.grantOf d item (s.loanCase d item) staff window :=
        (State.evaluateLoan_of_later ((hupTo9 overridden).1 hpass) hdup).2 ((hfrom11 overridden).1 hlater)
      have hdue : s.dueOf (s.loanCase d item) = due := rfl
      rw [State.grantOf_eq, hdue] at hgrant
      refine ⟨s.grantRecord d item (s.loanCase d item) staff, hgrant, ?_, ?_⟩
      · rw [State.grantRecord, hdue, renewalCount_eq]
        rfl
      · rw [State.grantRecord, hdue, holdFilling_eq]
        rfl
  · obtain ⟨r, hr, hmem⟩ := s.unrecorded_early_refusal d (s.loanCase d d.scan.ident)
    rw [State.evaluate_loanItem htask, State.evaluateLoan_of_early_refusal hr]
    exact ⟨rfl, rfl, rfl, rfl, rfl, hmem⟩
  · rw [State.evaluate_loanItem htask] at hg
    obtain ⟨hearly, hlater, hitem⟩ := State.evaluateLoan_granted hg
    rw [firstFailing_nil_eq_none] at hearly hlater
    simp only [State.checksTo9, State.checksFrom11, List.forall_mem_cons, List.not_mem_nil, false_imp_iff, forall_const, and_true,
      failing_eq_none] at hearly hlater
    obtain ⟨hvalid, hset, hfull, -, hborrower, hexpiry, hblocked, hfines, hexception⟩ := hearly
    obtain ⟨hrenewal, -, -, hlocal⟩ := hlater
    obtain ⟨b, hb⟩ := Option.isSome_iff_exists.mp (Option.isNone_eq_false_iff.mp hborrower)
    have hcase : (s.loanCase d d.scan.ident).borrower = b := by simp only [State.loanCase, hb, Option.getD_some]
    have hcategory : (s.loanCase d d.scan.ident).category = s.tables.liveTables.category b.category := by rw [← hcase]; rfl
    rw [hcase] at hexpiry hblocked hfines
    rw [hcategory] at hfines
    simp only [Bool.not_eq_false', Bool.and_eq_false_iff, Bool.or_eq_false_iff, decide_eq_false_iff_not, bne_eq_false_iff_eq,
      Option.isNone_eq_false_iff] at hvalid hset hfull hexpiry hblocked hfines hlocal
    obtain ⟨hadmin, hoverdue⟩ := hblocked
    rw [hitem]
    refine ⟨b, hb, hvalid, hset, Nat.not_le.mp hfull, hexpiry.imp id Nat.not_lt.mp, hadmin, hoverdue, Nat.not_lt.mp hfines, rfl,
      fun e he => ?_, fun e he => ?_, fun hnone => ?_⟩
    · exact exceptionCheck_eq_none (card := d.card) (by rw [← he]; exact hexception)
    · exact renewalCheck_eq_none (by rw [← he]; exact hrenewal)
    · have hroom := hlocal.resolve_left (by simp [State.loanCase, hnone])
      exact Nat.not_le.mp hroom

end Sys2Proof.Machine
end

section
/-! SUPPORT. A return (R68 to R70, R72): its exception flags by the item's exception state, and its record field by field. -/

namespace Sys2Proof.Machine

/-! ### The exception flags (R69) -/

section
variable (dated : Bool) (e : Option ItemException) (expiry : Due) (f : RecordFlags)

@[simp] theorem exceptionFlags_undated : (exceptionFlags dated e expiry f).undated = f.undated := by
  unfold exceptionFlags
  repeat' split
  all_goals rfl

@[simp] theorem exceptionFlags_late : (exceptionFlags dated e expiry f).late = f.late := by
  unfold exceptionFlags
  repeat' split
  all_goals rfl

variable {f}

/-- A flag that was clear is set exactly in the exception state it is named for; HOLD_TRAPPED needs a dated return besides (R69). -/
theorem exceptionFlags_set_iff (hf : f.found = false ∧ f.exceptionCleared = false ∧ f.holdAlready = false ∧ f.holdTrapped = false) :
    ((exceptionFlags dated e expiry f).found = true ↔ ∃ x, e = some x ∧ x.state = .missing)
      ∧ ((exceptionFlags dated e expiry f).exceptionCleared = true ↔ ∃ x, e = some x ∧ x.state = .onLoanElsewhere)
      ∧ ((exceptionFlags dated e expiry f).holdAlready = true ↔ ∃ x, e = some x ∧ x.state = .holdOnShelf)
      ∧ ((exceptionFlags dated e expiry f).holdTrapped = true ↔ dated = true ∧ ∃ x, e = some x ∧ x.state = .holdWaiting) := by
  obtain ⟨hfound, hcleared, halready, htrapped⟩ := hf
  cases e with
  | none => simp [exceptionFlags, hfound, hcleared, halready, htrapped]
  | some x =>
    cases hstate : x.state with
    | holdWaiting => cases dated <;> simp [exceptionFlags, hstate, hfound, hcleared, halready, htrapped]
    | _ => simp [exceptionFlags, hstate, hfound, hcleared, halready, htrapped]

end

/-! ### The record and the verdict (R68, R70, R72) -/

section
variable {s : State} {d : Decision} {recorded : Bool}

theorem State.evaluate_returnItem (h : d.task = .returnItem) : s.evaluate d recorded = s.evaluateReturn d recorded := by
  simp only [State.evaluate, h]

theorem State.evaluateReturn_of_invalid (h : s.tables.valid = false) :
    s.evaluateReturn d recorded = s.refusal d recorded .tablesInvalid 0 d.scan.ident none .keep none := by
  simp [State.evaluateReturn, h]

theorem State.evaluateReturn_of_valid (h : s.tables.valid = true) :
    s.evaluateReturn d recorded
      = { kind := .returned, outcome := some (if (s.returnRecord d d.scan.ident).flags.holdTrapped then .holdTrapped else .returnOk),
          record := some (s.returnRecord d d.scan.ident),
          latch := if (s.returnRecord d d.scan.ident).flags.found then some .itemAlert else none,
          holdSlip := (s.trapped d.scan.ident).map fun e =>
            { station := d.station,
              time := { day := (s.returnRecord d d.scan.ident).day, minute := (s.returnRecord d d.scan.ident).minute },
              card := e.holdCard, body := .hold d.scan.ident (s.returnRecord d d.scan.ident).shelfDay, copy := false } } := by
  simp [State.evaluateReturn, h]

variable (s d) (item : Nat)

theorem State.returnRecord_flags :
    (s.returnRecord d item).flags
      = exceptionFlags s.clock.isSet (s.tables.liveTables.exception? item) (s.tables.liveTables.calendar.holdExpiry s.clock.day)
          { undated := !s.clock.isSet, guest := d.guest,
            late := s.clock.isSet && (findLoan s.loans item).any fun e => s.clock.isAfter e.dueDay e.dueMinute } := rfl

/-- The exception flags of the record follow the item's exception entry (R69). -/
theorem State.returnRecord_exception_flags :
    let stateIs := fun st => ∃ e, s.tables.liveTables.exception? item = some e ∧ e.state = st
    ((s.returnRecord d item).flags.found = true ↔ stateIs .missing)
      ∧ ((s.returnRecord d item).flags.exceptionCleared = true ↔ stateIs .onLoanElsewhere)
      ∧ ((s.returnRecord d item).flags.holdAlready = true ↔ stateIs .holdOnShelf)
      ∧ ((s.returnRecord d item).flags.holdTrapped = true ↔ s.clock.isSet = true ∧ stateIs .holdWaiting) := by
  rw [State.returnRecord_flags]
  exact exceptionFlags_set_iff _ _ _ ⟨rfl, rfl, rfl, rfl⟩

/-- The aux bytes of a trapped hold spell its expiry day (R72, R94, Table 16). -/
theorem State.returnRecord_shelfDay (h : (s.returnRecord d item).flags.holdTrapped = true) :
    (s.returnRecord d item).shelfDay = (s.tables.liveTables.calendar.holdExpiry s.clock.day).day := by
  have haux : (s.returnRecord d item).shelfDay
      = (if (s.returnRecord d item).flags.holdTrapped then (s.tables.liveTables.calendar.holdExpiry s.clock.day).day / 256 else 0) * 256
        + if (s.returnRecord d item).flags.holdTrapped then (s.tables.liveTables.calendar.holdExpiry s.clock.day).day % 256 else 0 := rfl
  rw [haux, if_pos h, if_pos h]
  omega

/-- A hold slip goes with HOLD_TRAPPED and with nothing else (R69, R46). -/
theorem State.trapped_isSome : (s.trapped item).isSome = (s.returnRecord d item).flags.holdTrapped := by
  obtain ⟨-, -, -, htrapped⟩ := s.returnRecord_exception_flags d item
  rw [Bool.eq_iff_iff, htrapped, State.trapped]
  split
  · next hset => simp [Option.isSome_filter, Option.any_eq_true, hset]
  · next hset => simp [hset]

theorem Clock.isAfter_iff (c : Clock) (day minute : Nat) :
    c.isAfter day minute = true ↔ day < c.day ∨ day = c.day ∧ minute < c.minute := by
  simp [Clock.isAfter, eq_comm (a := day)]

end

/-- Settles O18: the refusal of an invalid set, and otherwise the record field by field, with its flags by the item's entries. -/
theorem returnFollowsItsEntries : Obligations.ReturnFollowsItsEntries := by
  intro s d htask v item c stateIs
  have hv : v = s.evaluateReturn d true := State.evaluate_returnItem htask
  constructor
  · intro hvalid
    rw [hv, State.evaluateReturn_of_invalid hvalid]
    exact ⟨rfl, rfl, rfl⟩
  · intro hvalid
    obtain ⟨hfound, hcleared, halready, htrapped⟩ := s.returnRecord_exception_flags d item
    have hlate : (s.returnRecord d item).flags.late
        = (s.clock.isSet && (findLoan s.loans item).any fun e => s.clock.isAfter e.dueDay e.dueMinute) := by
      rw [State.returnRecord_flags, exceptionFlags_late]
    have hundated : (s.returnRecord d item).flags.undated = !s.clock.isSet := by
      rw [State.returnRecord_flags, exceptionFlags_undated]
    have hstamp : (s.returnRecord d item).day = s.clock.stamp.day ∧ (s.returnRecord d item).minute = s.clock.stamp.minute := ⟨rfl, rfl⟩
    rw [hv, State.evaluateReturn_of_valid hvalid]
    refine ⟨s.returnRecord d item, rfl, rfl, rfl, rfl, rfl, rfl, fun hset => ?_, fun hset => ?_, fun hnone => ?_, fun l hl => ?_,
      hfound, hcleared, halready, htrapped, s.returnRecord_shelfDay d item, rfl, rfl, ?_⟩
    · simp [hstamp, hundated, Clock.stamp, hset]
    · simp [hstamp, hundated, hlate, Clock.stamp, hset, Config.undated]
    · exact ⟨by simp [State.returnRecord, hnone], by simp [hlate, hnone]⟩
    · have hentry : (s.returnRecord d item).card = l.card ∧ (s.returnRecord d item).dueDay = l.dueDay
          ∧ (s.returnRecord d item).dueMinute = l.dueMinute := by simp [State.returnRecord, hl]
      obtain ⟨hcard, hday, hminute⟩ := hentry
      refine ⟨hcard, hday, hminute, fun hset => ?_⟩
      rw [hlate, hset, hl, Bool.true_and, Option.any_some, Clock.isAfter_iff]
    · rw [Option.isSome_map, State.trapped_isSome]

end Sys2Proof.Machine
end

section
/-! SUPPORT. What a record does to the Local Loan List and the live tables (R65, R116, R117, R137, R138): reading a keyed list after an entry is put,
changed or removed, and what each record kind and each patch operation leaves. -/

namespace Sys2Proof.Machine

/-! ### Keyed lists: an entry put, removed or changed

No order is asked for: the entry found is the first one with its key. -/

section
variable {α : Type} {key : α → Nat}

theorem find_upsert_self (a : α) (l : List α) : ((upsert key a l).find? fun b => key b == key a) = some a := by
  induction l with
  | nil => simp [upsert]
  | cons b rest ih =>
    simp only [upsert]
    split
    · simp
    · split
      · simp
      · next hne => simp [Ne.symm hne, ih]

theorem find_upsert_of_ne {a : α} {k : Nat} (h : k ≠ key a) (l : List α) :
    ((upsert key a l).find? fun b => key b == k) = l.find? fun b => key b == k := by
  induction l with
  | nil => simp [upsert, Ne.symm h]
  | cons b rest ih =>
    simp only [upsert]
    split
    · simp [List.find?_cons, Ne.symm h]
    · split
      · next he => simp [Ne.symm h, ← he]
      · simp [List.find?_cons, ih]

theorem upsert_upsert (a : α) (l : List α) : upsert key a (upsert key a l) = upsert key a l := by
  induction l with
  | nil => simp [upsert]
  | cons b rest ih =>
    rw [upsert]
    split
    · simp [upsert]
    · split
      · simp [upsert]
      · next hlt hne => rw [upsert, if_neg hlt, if_neg hne, ih]

theorem find_removeKey_self (k : Nat) (l : List α) : ((removeKey key k l).find? fun b => key b == k) = none := by
  simp [removeKey]

theorem find_removeKey_of_ne {k m : Nat} (h : m ≠ k) (l : List α) :
    ((removeKey key k l).find? fun b => key b == m) = l.find? fun b => key b == m := by
  rw [removeKey, List.find?_filter]
  congr
  funext b
  by_cases hb : key b = m <;> simp [hb, h]

theorem removeKey_removeKey (k : Nat) (l : List α) : removeKey key k (removeKey key k l) = removeKey key k l := by
  simp [removeKey]

variable {f : α → α}

/-- A change under a key is seen at that key and at no other, as it keeps the key. -/
theorem find_changed (hf : ∀ b, key (f b) = key b) (k m : Nat) (l : List α) :
    ((l.map fun b => if key b = k then f b else b).find? fun b => key b == m)
      = (l.find? fun b => key b == m).map fun b => if m = k then f b else b := by
  have hkey : ∀ b, key (if key b = k then f b else b) = key b := fun b => by
    split
    · exact hf b
    · rfl
  induction l with
  | nil => rfl
  | cons b rest ih =>
    rw [List.map_cons, List.find?_cons, List.find?_cons, hkey, ih]
    cases hb : key b == m with
    | false => rfl
    | true => rw [beq_iff_eq.mp hb]; rfl

theorem find_changed_self (hf : ∀ b, key (f b) = key b) (k : Nat) (l : List α) :
    ((l.map fun b => if key b = k then f b else b).find? fun b => key b == k) = (l.find? fun b => key b == k).map f := by
  simp [find_changed hf]

theorem find_changed_of_ne (hf : ∀ b, key (f b) = key b) {k m : Nat} (h : m ≠ k) (l : List α) :
    ((l.map fun b => if key b = k then f b else b).find? fun b => key b == m) = l.find? fun b => key b == m := by
  simp [find_changed hf, h]

theorem changed_changed (hf : ∀ b, key (f b) = key b) (hff : ∀ b, f (f b) = f b) (k : Nat) (l : List α) :
    ((l.map fun b => if key b = k then f b else b).map fun b => if key b = k then f b else b)
      = l.map fun b => if key b = k then f b else b := by
  rw [List.map_map]
  refine List.map_congr_left fun b _ => ?_
  by_cases hb : key b = k <;> simp [hb, hf, hff]

end

/-! ### The Local Loan List (R65, R137) -/

section
variable {r : JournalRecord} {l : List LoanEntry}

/-- What a RENEW record makes of its item's entry (R137). -/
def renewedEntry (r : JournalRecord) (e : LoanEntry) : LoanEntry :=
  { e with sequence := r.sequence, dueDay := r.dueDay, dueMinute := r.dueMinute, renewals := r.aux1, override := r.flags.override }

theorem applyToLoans_loan (h : r.kind = .loan) : applyToLoans r l = upsert (·.item) (loanEntryOf r) l := by
  simp only [applyToLoans, h]

theorem applyToLoans_renew (h : r.kind = .renew) :
    applyToLoans r l = l.map fun e => if e.item = r.item then renewedEntry r e else e := by
  simp only [applyToLoans, h]
  rfl

theorem applyToLoans_returned (h : r.kind = .returned) : applyToLoans r l = removeKey (·.item) r.item l := by
  simp only [applyToLoans, h]

theorem applyToLoans_other (hl : r.kind ≠ .loan) (hr : r.kind ≠ .renew) (hb : r.kind ≠ .returned) : applyToLoans r l = l := by
  unfold applyToLoans
  split
  · contradiction
  · contradiction
  · contradiction
  · rfl

/-- The four cases of a record's effect on the list. -/
theorem RecordKind.loans_cases (k : RecordKind) :
    k = .loan ∨ k = .renew ∨ k = .returned ∨ k ≠ .loan ∧ k ≠ .renew ∧ k ≠ .returned := by
  cases k <;> simp

theorem applyToLoans_applyToLoans (r : JournalRecord) (l : List LoanEntry) :
    applyToLoans r (applyToLoans r l) = applyToLoans r l := by
  obtain h | h | h | ⟨hl, hr, hb⟩ := r.kind.loans_cases
  · rw [applyToLoans_loan h, applyToLoans_loan h, upsert_upsert]
  · rw [applyToLoans_renew h, applyToLoans_renew h]
    exact changed_changed (key := (·.item)) (f := renewedEntry r) (fun _ => rfl) (fun _ => rfl) r.item l
  · rw [applyToLoans_returned h, applyToLoans_returned h, removeKey_removeKey]
  · rw [applyToLoans_other hl hr hb, applyToLoans_other hl hr hb]

/-- A record reaches its own item's entry alone. -/
theorem findLoan_applyToLoans_of_ne {item : Nat} (h : item ≠ r.item) : findLoan (applyToLoans r l) item = findLoan l item := by
  obtain hk | hk | hk | ⟨hl, hr, hb⟩ := r.kind.loans_cases
  · rw [applyToLoans_loan hk]
    exact find_upsert_of_ne (key := LoanEntry.item) (a := loanEntryOf r) h l
  · rw [applyToLoans_renew hk]
    exact find_changed_of_ne (key := (·.item)) (f := renewedEntry r) (fun _ => rfl) h l
  · rw [applyToLoans_returned hk]
    exact find_removeKey_of_ne h l
  · rw [applyToLoans_other hl hr hb]

end

/-! ### Borrowers and exceptions changed (R116, R117) -/

section
variable (t : TableSet)

/-- A table set that differs from another at most in the exception entry of one item. -/
def TableSet.OnlyException (t after : TableSet) (item : Nat) : Prop :=
  after = { t with exceptions := after.exceptions } ∧ ∀ other, other ≠ item → after.exception? other = t.exception? other

theorem TableSet.onlyException_refl (item : Nat) : t.OnlyException t item := ⟨rfl, fun _ _ => rfl⟩

theorem TableSet.onlyException_dropException (item : Nat) : t.OnlyException (t.dropException item) item :=
  ⟨rfl, fun _ h => find_removeKey_of_ne h t.exceptions⟩

@[simp] theorem TableSet.exception?_dropException (item : Nat) : (t.dropException item).exception? item = none :=
  find_removeKey_self item t.exceptions

@[simp] theorem TableSet.dropException_dropException (item : Nat) :
    (t.dropException item).dropException item = t.dropException item := by
  simp only [TableSet.dropException, removeKey_removeKey]

section
variable {f : ItemException → ItemException} (hf : ∀ e, (f e).item = e.item)
include hf

theorem TableSet.onlyException_changeException (item : Nat) : t.OnlyException (t.changeException item f) item :=
  ⟨rfl, fun _ h => find_changed_of_ne hf h t.exceptions⟩

theorem TableSet.exception?_changeException (item : Nat) :
    (t.changeException item f).exception? item = (t.exception? item).map f :=
  find_changed_self hf item t.exceptions

theorem TableSet.changeException_changeException (hff : ∀ e, f (f e) = f e) (item : Nat) :
    (t.changeException item f).changeException item f = t.changeException item f := by
  simp only [TableSet.changeException, changed_changed hf hff]

end

/-- A table set that differs from another at most in the borrower entry of one card. -/
def TableSet.OnlyBorrower (t after : TableSet) (card : Nat) : Prop :=
  after = { t with borrowers := after.borrowers } ∧ ∀ other, other ≠ card → after.borrower? other = t.borrower? other

section
variable {f : Borrower → Borrower} (hf : ∀ b, (f b).card = b.card)
include hf

theorem TableSet.onlyBorrower_changeBorrower (card : Nat) : t.OnlyBorrower (t.changeBorrower card f) card :=
  ⟨rfl, fun _ h => find_changed_of_ne hf h t.borrowers⟩

theorem TableSet.borrower?_changeBorrower (card : Nat) : (t.changeBorrower card f).borrower? card = (t.borrower? card).map f :=
  find_changed_self hf card t.borrowers

theorem TableSet.changeBorrower_changeBorrower (hff : ∀ b, f (f b) = f b) (card : Nat) :
    (t.changeBorrower card f).changeBorrower card f = t.changeBorrower card f := by
  simp only [TableSet.changeBorrower, changed_changed hf hff]

end

theorem BorrowerFlags.union_union (f m : BorrowerFlags) : (f.union m).union m = f.union m := by
  simp [BorrowerFlags.union]

theorem BorrowerFlags.without_without (f m : BorrowerFlags) : (f.without m).without m = f.without m := by
  simp [BorrowerFlags.without]

/-- A borrower patch acts once however often it is applied, whatever key its entry has. -/
theorem TableSet.patchBorrower_patchBorrower (card : Nat) (op : BorrowerOp) :
    (t.patchBorrower card op).patchBorrower card op = t.patchBorrower card op := by
  cases op with
  | setFlags m =>
    refine t.changeBorrower_changeBorrower (fun _ => ?_) (fun b => ?_) card
    · rfl
    · simp only [BorrowerFlags.union_union]
  | clearFlags m =>
    refine t.changeBorrower_changeBorrower (fun _ => ?_) (fun b => ?_) card
    · rfl
    · simp only [BorrowerFlags.without_without]
  | setFines | setExpiry =>
    refine t.changeBorrower_changeBorrower (fun _ => ?_) (fun _ => ?_) card
    · rfl
    · rfl
  | insert e => simp only [TableSet.patchBorrower, upsert_upsert]
  | delete => simp only [TableSet.patchBorrower, removeKey_removeKey]

theorem TableSet.patchItem_patchItem (item : Nat) (op : ItemOp) : (t.patchItem item op).patchItem item op = t.patchItem item op := by
  cases op with
  | insert e => simp only [TableSet.patchItem, upsert_upsert]
  | delete => exact t.dropException_dropException item
  | setState =>
    refine t.changeException_changeException (fun _ => ?_) (fun _ => ?_) item
    · rfl
    · rfl

theorem TableSet.onlyBorrower_patchBorrower {card : Nat} {op : BorrowerOp} (hkey : ∀ e, op = .insert e → e.card = card) :
    t.OnlyBorrower (t.patchBorrower card op) card := by
  cases op with
  | insert e => exact ⟨rfl, fun _ h => find_upsert_of_ne (key := Borrower.card) (by rwa [hkey e rfl]) t.borrowers⟩
  | delete => exact ⟨rfl, fun _ h => find_removeKey_of_ne h t.borrowers⟩
  | _ =>
    refine t.onlyBorrower_changeBorrower (fun _ => ?_) card
    rfl

theorem TableSet.onlyException_patchItem {item : Nat} {op : ItemOp} (hkey : ∀ e, op = .insert e → e.item = item) :
    t.OnlyException (t.patchItem item op) item := by
  cases op with
  | insert e => exact ⟨rfl, fun _ h => find_upsert_of_ne (key := ItemException.item) (by rwa [hkey e rfl]) t.exceptions⟩
  | delete => exact t.onlyException_dropException item
  | setState =>
    refine t.onlyException_changeException (fun _ => ?_) item
    rfl

theorem TableSet.patch_patch (p : Patch) : (t.patch p).patch p = t.patch p := by
  cases p with
  | borrower card op => exact t.patchBorrower_patchBorrower card op
  | item item op => exact t.patchItem_patchItem item op

end

/-! ### Records on the live tables (R138) -/

section
variable {r : JournalRecord} {t : TableSet} {e : ItemException}

/-- A grant's record ends the hold that its item's entry is (R138). -/
def FillsHold (r : JournalRecord) (t : TableSet) : Prop :=
  r.flags.holdFilled = true
    ∧ ∃ e, t.exception? r.item = some e ∧ (e.state = .holdWaiting ∨ e.state = .holdOnShelf) ∧ e.holdCard = r.card

theorem applyToTables_of_fills (hk : r.kind = .loan ∨ r.kind = .renew) (h : FillsHold r t) :
    applyToTables r t = t.dropException r.item := by
  obtain ⟨hfilled, e, he, hstate, hcard⟩ := h
  obtain hk | hk := hk <;> simp only [applyToTables, hk, hfilled, he] <;> exact if_pos ⟨hstate, hcard⟩

theorem applyToTables_of_not_fills (hk : r.kind = .loan ∨ r.kind = .renew) (h : ¬FillsHold r t) : applyToTables r t = t := by
  have hmatch : (match r.flags.holdFilled, t.exception? r.item with
      | true, some e => if (e.state = .holdWaiting ∨ e.state = .holdOnShelf) ∧ e.holdCard = r.card then t.dropException r.item else t
      | _, _ => t) = t := by
    split
    · next e hfilled he => exact if_neg fun hheld => h ⟨hfilled, e, he, hheld⟩
    · rfl
  obtain hk | hk := hk <;> simp only [applyToTables, hk] <;> exact hmatch

theorem applyToTables_returned_of_absent (hk : r.kind = .returned) (he : t.exception? r.item = none) : applyToTables r t = t := by
  simp only [applyToTables, hk, he]

/-- What a RETURN record with HOLD_TRAPPED makes of its item's entry (R138). -/
def ItemException.shelved (e : ItemException) (day : Nat) : ItemException := { e with state := .holdOnShelf, holdExpiry := some day }

theorem applyToTables_returned (hk : r.kind = .returned) (he : t.exception? r.item = some e) :
    applyToTables r t
      = if r.flags.found = true ∧ e.state = .missing then t.dropException r.item
        else if r.flags.exceptionCleared = true ∧ e.state = .onLoanElsewhere then t.dropException r.item
        else if r.flags.holdTrapped = true ∧ e.state = .holdWaiting then t.changeException r.item fun e => e.shelved r.shelfDay
        else t := by
  simp only [applyToTables, hk, he]
  rfl

theorem applyToTables_patch {p : Patch} (hk : r.kind = .tablePatch) (hp : patchOf r = some p) : applyToTables r t = t.patch p := by
  simp only [applyToTables, hk, hp]

theorem applyToTables_no_patch (hk : r.kind = .tablePatch) (hp : patchOf r = none) : applyToTables r t = t := by
  simp only [applyToTables, hk, hp]

theorem applyToTables_other (hl : r.kind ≠ .loan) (hr : r.kind ≠ .renew) (hb : r.kind ≠ .returned) (hp : r.kind ≠ .tablePatch) :
    applyToTables r t = t := by
  unfold applyToTables
  split
  · contradiction
  · contradiction
  · contradiction
  · contradiction
  · rfl

theorem exception?_shelved (t : TableSet) (item day : Nat) :
    (t.changeException item fun e => e.shelved day).exception? item = (t.exception? item).map fun e => e.shelved day := by
  refine t.exception?_changeException (fun _ => ?_) item
  rfl

/-- After a grant's record the hold it filled is gone, and it fills no other. -/
theorem applyToTables_grant_twice (hk : r.kind = .loan ∨ r.kind = .renew) :
    applyToTables r (applyToTables r t) = applyToTables r t := by
  by_cases h : FillsHold r t
  · rw [applyToTables_of_fills hk h, applyToTables_of_not_fills hk]
    rintro ⟨-, e, he, -⟩
    simp at he
  · rw [applyToTables_of_not_fills hk h, applyToTables_of_not_fills hk h]

/-- After a RETURN record its item's entry is gone, or on the shelf, where no flag names its state, or as it was. -/
theorem applyToTables_returned_twice (hk : r.kind = .returned) : applyToTables r (applyToTables r t) = applyToTables r t := by
  have hdropped : applyToTables r (t.dropException r.item) = t.dropException r.item :=
    applyToTables_returned_of_absent hk (t.exception?_dropException r.item)
  cases he : t.exception? r.item with
  | none => rw [applyToTables_returned_of_absent hk he, applyToTables_returned_of_absent hk he]
  | some e =>
    have hsame := applyToTables_returned hk he
    by_cases hfound : r.flags.found = true ∧ e.state = .missing
    · rwa [hsame, if_pos hfound]
    · by_cases hcleared : r.flags.exceptionCleared = true ∧ e.state = .onLoanElsewhere
      · rwa [hsame, if_neg hfound, if_pos hcleared]
      · by_cases htrapped : r.flags.holdTrapped = true ∧ e.state = .holdWaiting
        · have hshelved : (t.changeException r.item fun e => e.shelved r.shelfDay).exception? r.item = some (e.shelved r.shelfDay) := by
            rw [exception?_shelved, he, Option.map_some]
          rw [hsame, if_neg hfound, if_neg hcleared, if_pos htrapped, applyToTables_returned hk hshelved]
          simp [ItemException.shelved]
        · rw [hsame, if_neg hfound, if_neg hcleared, if_neg htrapped, hsame, if_neg hfound, if_neg hcleared, if_neg htrapped]

/-- The four cases of a record's effect on the tables. -/
theorem RecordKind.tables_cases (k : RecordKind) :
    (k = .loan ∨ k = .renew) ∨ k = .returned ∨ k = .tablePatch ∨ k ≠ .loan ∧ k ≠ .renew ∧ k ≠ .returned ∧ k ≠ .tablePatch := by
  cases k <;> simp

theorem applyToTables_applyToTables (r : JournalRecord) (t : TableSet) :
    applyToTables r (applyToTables r t) = applyToTables r t := by
  obtain h | h | h | ⟨hl, hr, hb, hp⟩ := r.kind.tables_cases
  · exact applyToTables_grant_twice h
  · exact applyToTables_returned_twice h
  · cases hp : patchOf r with
    | none => rw [applyToTables_no_patch h hp, applyToTables_no_patch h hp]
    | some p => rw [applyToTables_patch h hp, applyToTables_patch h hp, t.patch_patch]
  · rw [applyToTables_other hl hr hb hp, applyToTables_other hl hr hb hp]

theorem onlyException_grant (hk : r.kind = .loan ∨ r.kind = .renew) : t.OnlyException (applyToTables r t) r.item := by
  by_cases h : FillsHold r t
  · rw [applyToTables_of_fills hk h]
    exact t.onlyException_dropException r.item
  · rw [applyToTables_of_not_fills hk h]
    exact t.onlyException_refl r.item

theorem onlyException_returned (hk : r.kind = .returned) : t.OnlyException (applyToTables r t) r.item := by
  cases he : t.exception? r.item with
  | none =>
    rw [applyToTables_returned_of_absent hk he]
    exact t.onlyException_refl r.item
  | some e =>
    rw [applyToTables_returned hk he]
    split
    · exact t.onlyException_dropException r.item
    · split
      · exact t.onlyException_dropException r.item
      · split
        · refine t.onlyException_changeException (fun _ => ?_) r.item
          rfl
        · exact t.onlyException_refl r.item

end

/-- Settles O27: idempotence by the record's kind, then each kind and each patch operation by its equation. -/
theorem recordEffectsAreIdempotent : Obligations.RecordEffectsAreIdempotent := by
  refine ⟨applyToLoans_applyToLoans, applyToTables_applyToTables, ?_, ?_, ?_, ?_⟩
  · intro r l after
    refine ⟨fun item h => findLoan_applyToLoans_of_ne h, fun h => ?_, fun h => ?_, fun h => ?_, applyToLoans_other⟩
    · simp only [after, applyToLoans_loan h]
      exact find_upsert_self (key := LoanEntry.item) (loanEntryOf r) l
    · simp only [after, applyToLoans_renew h]
      exact find_changed_self (key := LoanEntry.item) (f := renewedEntry r) (fun _ => rfl) r.item l
    · simp only [after, applyToLoans_returned h]
      exact find_removeKey_self r.item l
  · intro r t after old entry onlyItem
    refine ⟨fun hk => ⟨onlyException_grant hk, fun e hfilled he hstate hcard => ?_, fun hunfilled => ?_⟩,
      fun hk => ⟨onlyException_returned hk, fun hnone => applyToTables_returned_of_absent hk hnone, fun e he => ?_⟩,
      fun hk p hp => applyToTables_patch hk hp, applyToTables_other⟩
    · simp only [entry, after, applyToTables_of_fills hk ⟨hfilled, e, he, hstate, hcard⟩, TableSet.exception?_dropException]
    · refine applyToTables_of_not_fills hk ?_
      rintro ⟨hfilled, e, he, hstate, hcard⟩
      obtain h | h | ⟨e', he', h⟩ := hunfilled
      · simp [h] at hfilled
      · simp [old, h] at he
      · obtain rfl : e' = e := Option.some.inj (he'.symm.trans he)
        obtain h | ⟨hw, hs⟩ := h
        · exact h hcard
        · exact hstate.elim hw hs
    · have hafter := applyToTables_returned hk he
      refine ⟨fun hflag hstate => ?_, fun hflag hstate => ?_, fun hflag hstate => ?_, fun hfound hcleared htrapped => ?_⟩
      · simp only [entry, after, hafter, if_pos (And.intro hflag hstate), TableSet.exception?_dropException]
      · simp [entry, after, hafter, hflag, hstate]
      · simp only [entry, after, hafter, hstate, hflag, and_self, and_false, if_false, if_true, reduceCtorEq, exception?_shelved]
        rw [show t.exception? r.item = some e from he]
        rfl
      · simp only [after, hafter, if_neg hfound, if_neg hcleared, if_neg htrapped]
  · intro t card op hkey after old
    obtain ⟨hrest, hothers⟩ := t.onlyBorrower_patchBorrower hkey
    refine ⟨hrest, hothers, ?_⟩
    cases op with
    | insert e =>
      rw [← hkey e rfl]
      exact find_upsert_self (key := Borrower.card) e t.borrowers
    | delete => exact find_removeKey_self card t.borrowers
    | _ =>
      refine t.borrower?_changeBorrower (fun _ => ?_) card
      rfl
  · intro t item op hkey after
    obtain ⟨hrest, hothers⟩ := t.onlyException_patchItem hkey
    refine ⟨hrest, hothers, ?_⟩
    cases op with
    | insert e =>
      rw [← hkey e rfl]
      exact find_upsert_self (key := ItemException.item) e t.exceptions
    | delete => exact t.exception?_dropException item
    | setState =>
      refine t.exception?_changeException (fun _ => ?_) item
      rfl

end Sys2Proof.Machine
end

section
/-! SUPPORT. The turn of the head request (R48, R133 to R136): what the writer gives it, by its class and the journal's figures, and what each
kind of turn does. -/

namespace Sys2Proof.Machine

theorem exec_journalTurn (s : State) : exec .journalTurn s = .next (settle s s.turn) := rfl

/-! ### What the writer gives (R129, R134, R135) -/

section
variable {j : Journal}

theorem Journal.turnFor_loanClass (j : Journal) :
    j.turnFor .loanClass
      = if j.free ≤ 64 ∨ j.exhausted = true then .unrecorded else if j.headWritable = true then .recorded else .waits := by
  simp only [Journal.turnFor, Bool.or_eq_true, decide_eq_true_eq]
  rfl

theorem Journal.turnFor_returnClass (j : Journal) :
    j.turnFor .returnClass
      = if j.free = 0 ∨ j.exhausted = true then .waits else if j.headWritable = true then .recorded else .waits := by
  simp only [Journal.turnFor, Bool.or_eq_true, decide_eq_true_eq]

/-- With more than the reserve free, either class has a recorded turn or waits by the head page alone (R134, R135). -/
theorem Journal.turnFor_of_room (hleft : j.exhausted = false) (hroom : 64 < j.free) (cls : RequestClass) :
    j.turnFor cls = if j.headWritable = true then .recorded else .waits := by
  cases cls with
  | loanClass => rw [Journal.turnFor_loanClass, if_neg (by simp [hleft, hroom])]
  | returnClass => rw [Journal.turnFor_returnClass, if_neg (by simp [hleft]; omega)]

end

/-! ### The turn given (R133, R136) -/

section
variable {s : State} {r : Requester} {rest : List Requester} {d : Decision}

/-- The state with another request order. -/
def State.withRequests (s : State) (rest : List Requester) : State := { s with journal := { s.journal with requests := rest } }

theorem State.popRequest_eq (h : s.journal.requests = r :: rest) : s.popRequest = s.withRequests rest := by
  rw [State.popRequest, h, List.tail_cons, State.withRequests]

/-- The writer, IDLE and on, gives the head request its turn. -/
theorem State.turn_of_head (hlife : s.life = .on) (hidle : s.journal.writer = .idle) (h : s.journal.requests = r :: rest) :
    (s.journal.turnFor (s.classOf r) = .recorded → s.turn = s.popRequest.serveRecorded r)
      ∧ (s.journal.turnFor (s.classOf r) = .unrecorded → s.turn = s.popRequest.serveEngine false)
      ∧ (s.journal.turnFor (s.classOf r) = .waits → s.turn = s) := by
  refine ⟨fun ht => ?_, fun ht => ?_, fun ht => ?_⟩ <;> simp [State.turn, hlife, hidle, h, ht]

theorem State.classOf_of_ne (h : r ≠ .engine) : s.classOf r = .returnClass := by
  cases r with
  | engine => contradiction
  | _ => rfl

theorem State.classOf_engine (h : s.engine.decision = some d) : s.classOf .engine = d.requestClass := by
  simp [State.classOf, h]

theorem State.serveEngine_of_record {recorded : Bool} {record : JournalRecord} (hd : s.engine.decision = some d)
    (hr : (s.evaluate d recorded).record = some record) :
    s.serveEngine recorded
      = { s with
          engine := { s.engine with phase := .writing, verdict := some (s.evaluate d recorded) },
          journal := { s.journal with writer := .writing record .engine } } := by
  simp only [State.serveEngine, hd, hr]
  rfl

theorem State.serveEngine_of_no_record {recorded : Bool} (hd : s.engine.decision = some d)
    (hr : (s.evaluate d recorded).record = none) :
    s.serveEngine recorded = s.applyVerdict d (s.evaluate d recorded) 0 := by
  simp only [State.serveEngine, hd, hr]

theorem State.serveRecorded_patch {p : Patch} (h : s.tables.patch = some p) :
    s.serveRecorded .patch = s.write (p.record (s.recordBase .tablePatch 15)) .patch := by
  simp only [State.serveRecorded, h]

/-! ### Evaluations at an unrecorded turn (R51) -/

/-- What a loan-class scan asks for writes nothing at an unrecorded turn: check 4 refuses at the latest (R51, R53). -/
theorem State.evaluate_unrecorded_record (htask : d.task = .loanItem ∨ d.task = .cardLookup ∨ d.task = .staffCard) :
    (s.evaluate d false).record = none := by
  obtain htask | htask | htask := htask
  · obtain ⟨r, hr, -⟩ := s.unrecorded_early_refusal d (s.loanCase d d.scan.ident)
    rw [State.evaluate_loanItem htask, State.evaluateLoan_of_early_refusal hr]
    rfl
  · rw [State.evaluate_cardLookup htask]
    cases hvalid : s.tables.valid with
    | false => rw [State.lookupCard_of_invalid hvalid]; rfl
    | true => rw [State.lookupCard_of_unrecorded hvalid]; rfl
  · rw [State.evaluate_staffCard htask]
    cases hvalid : s.tables.valid with
    | false => rw [State.lookupStaff_of_unknown (.inl hvalid)]; rfl
    | true =>
      cases hstaff : s.tables.liveTables.staff? d.scan.ident with
      | none => rw [State.lookupStaff_of_unknown (.inr hstaff)]; rfl
      | some found =>
        by_cases hopen : d.sessionState = .open_
        · cases hlast : d.lastRefusal with
          | none => rw [State.lookupStaff_of_no_override hvalid hstaff (.inr hlast)]
          | some last => rw [State.lookupStaff_of_override hvalid hstaff hopen hlast]; rfl
        · rw [State.lookupStaff_of_no_override hvalid hstaff (.inl hopen)]

end

/-- Settles O23: the turn by its class and figures, and what the requester it is given to does with it. -/
theorem turnServesHeadRequest : Obligations.TurnServesHeadRequest := by
  constructor
  · intro j
    have hloan := j.turnFor_loanClass
    have hreturn := j.turnFor_returnClass
    refine ⟨fun hleft hroom hw cls => ?_, fun hleft hsome _ hw => ?_, fun hfull => ?_, fun hfull => ?_, fun hex => ⟨?_, ?_⟩,
      fun hleft hroom hw cls => ?_, fun hw => ?_⟩
    · rw [Journal.turnFor_of_room hleft hroom, if_pos hw]
    · rw [hreturn, if_neg (by simp [hleft]; omega), if_pos hw]
    · rw [hloan, if_pos (.inl hfull)]
    · rw [hreturn, if_pos (.inl hfull)]
    · rw [hloan, if_pos (.inr hex)]
    · rw [hreturn, if_pos (.inr hex)]
    · rw [Journal.turnFor_of_room hleft hroom, if_neg (by simp [hw])]
    · rw [hreturn, if_neg (by simp [hw] : ¬j.headWritable = true), ite_self]
  · intro s rest hlife hidle writing base
    have hrecorded : ∀ r, r ≠ .engine → s.journal.turnFor .returnClass = .recorded → s.journal.requests = r :: rest →
        exec .journalTurn s = .next (settle s ((s.withRequests rest).serveRecorded r)) := fun r hr ht h => by
      rw [exec_journalTurn, (State.turn_of_head hlife hidle h).1 (by rwa [State.classOf_of_ne hr]), State.popRequest_eq h]
    have hbase : ∀ kind station, (s.withRequests rest).recordBase kind station = { base with kind := kind, station := station } :=
      State.recordBase_eq (s.withRequests rest)
    refine ⟨fun ht => ⟨fun i h => ?_, fun h => ?_, fun h => ?_, fun p h hp => ?_⟩, fun d h hd => ?_, fun r h hr ht => ?_⟩
    · rw [hrecorded _ (by simp) ht h, State.serveRecorded, State.closeRecord, hbase]
      rfl
    · rw [hrecorded _ (by simp) ht h, State.serveRecorded, State.commitRecord, hbase]
      rfl
    · rw [hrecorded _ (by simp) ht h, State.serveRecorded, State.restartRecord, hbase]
      rfl
    · rw [hrecorded _ (by simp) ht h, State.serveRecorded_patch (s := s.withRequests rest) hp, hbase]
      rfl
    · intro popped
      obtain ⟨hgiven, hunrecorded, hwaits⟩ := State.turn_of_head hlife hidle h
      rw [State.classOf_engine hd, State.popRequest_eq h] at hgiven hunrecorded
      rw [State.classOf_engine hd] at hwaits
      have hpopped : popped.engine.decision = some d := hd
      refine ⟨fun ht => ?_, fun hclass htask ht => ?_, fun ht => ?_⟩
      · rw [exec_journalTurn, hgiven ht]
        exact ⟨fun r hr => congrArg (fun t => Host.Outcome.next (settle s t)) (State.serveEngine_of_record hpopped hr),
          fun hr => congrArg (fun t => Host.Outcome.next (settle s t)) (State.serveEngine_of_no_record hpopped hr)⟩
      · rw [exec_journalTurn, hunrecorded (by rwa [hclass])]
        exact congrArg (fun t => Host.Outcome.next (settle s t))
          (State.serveEngine_of_no_record hpopped (State.evaluate_unrecorded_record htask))
      · rw [exec_journalTurn, hwaits ht, settle_self]
    · obtain ⟨-, -, hwaits⟩ := State.turn_of_head hlife hidle h
      rw [exec_journalTurn, hwaits (by rwa [State.classOf_of_ne hr]), settle_self]

end Sys2Proof.Machine
end

section
/-! SUPPORT. The clock, the protection settings and the configuration records stay in their ranges (Table 5, R76, R121, R122, Table 17): most of
what a command does leaves all of them as they are, and each operation that changes one of them keeps it in its ranges. -/

namespace Sys2Proof.Machine

open Config

/-! ### What the ranges speak of -/

/-- The part of the state that the ranges speak of: the clock, the protection settings, and the configuration record in force and being stored. -/
def State.settings (s : State) : Clock × Protection × ConfigRecord × Option ConfigRecord :=
  (s.clock, s.tables.protection, s.config, s.configStore)

theorem State.SettingsWf.of_settings {s t : State} (h : s.SettingsWf) (e : t.settings = s.settings) : t.SettingsWf := by
  simp only [State.settings, Prod.mk.injEq] at e
  obtain ⟨hclock, hprotection, hconfig, hstore⟩ := e
  rwa [State.SettingsWf, hclock, hprotection, hconfig, hstore]

theorem State.SettingsWf.clock {s : State} (h : s.SettingsWf) : s.clock.Wf := by
  obtain ⟨hclock, -⟩ := h
  exact hclock

theorem State.SettingsWf.config {s : State} (h : s.SettingsWf) : s.config.InRange := by
  obtain ⟨-, -, hconfig, -⟩ := h
  exact hconfig

theorem State.SettingsWf.stored {s : State} (h : s.SettingsWf) : ∀ c ∈ s.configStore, c.InRange := by
  obtain ⟨-, -, -, hstored⟩ := h
  exact hstored

/-! ### Operations that leave the settings as they are -/

section
variable (s : State) (i : Station)

@[simp] theorem State.onSession_settings (f : Session → Session) : (s.onSession i f).settings = s.settings := rfl
@[simp] theorem State.takeScan_settings (scan : ScanRecord) : (s.takeScan i scan).settings = s.settings := rfl
@[simp] theorem State.restartIdle_settings : (s.restartIdle i).settings = s.settings := rfl
@[simp] theorem State.sendToEngine_settings (scan : ScanRecord) (task : Task) (cls : RequestClass) :
    (s.sendToEngine i scan task cls).settings = s.settings := rfl
@[simp] theorem State.reprint_settings : s.reprint.2.settings = s.settings := rfl

@[simp] theorem State.display_settings (o : OutcomeKind) : (s.display i o).settings = s.settings := by simp [State.settings]
@[simp] theorem State.beginClose_settings (shown : Option OutcomeKind) : (s.beginClose i shown).settings = s.settings := by
  simp [State.settings]
@[simp] theorem State.closeFromOutside_settings : (s.closeFromOutside i).settings = s.settings := by simp [State.settings]
@[simp] theorem State.modeChanged_settings (before : Mode) : (s.modeChanged i before).settings = s.settings := by simp [State.settings]
@[simp] theorem State.discardScans_settings : (s.discardScans i).settings = s.settings := by simp [State.settings]
@[simp] theorem State.slipSettled_settings (slip : Slip) (o : SlipOutcome) : (s.slipSettled i slip o).settings = s.settings := by
  simp [State.settings]
@[simp] theorem State.dropWaiting_settings (slip : Slip) : (s.dropWaiting i slip).settings = s.settings :=
  State.slipSettled_settings ..
@[simp] theorem State.takeWaiting_settings (slip : Slip) : (s.takeWaiting i slip).settings = s.settings :=
  State.slipSettled_settings ..
@[simp] theorem State.clearConditions_settings (mask : BitVec 32) : (s.clearConditions mask).settings = s.settings := by
  simp [State.settings]
@[simp] theorem State.resumePrinter_settings : s.resumePrinter.2.settings = s.settings := by simp [State.settings]
@[simp] theorem State.applyVerdict_settings (d : Decision) (v : Verdict) (sequence : Nat) :
    (s.applyVerdict d v sequence).settings = s.settings := by simp [State.settings]
@[simp] theorem State.serveEngine_settings (recorded : Bool) : (s.serveEngine recorded).settings = s.settings := by
  simp [State.settings]
@[simp] theorem State.wandComplete_settings (c : WandChar) : (s.wandComplete i c).settings = s.settings := by simp [State.settings]
@[simp] theorem State.assemblerStep_settings : (s.assemblerStep i).settings = s.settings := by simp [State.settings]
@[simp] theorem State.fragment_settings : (s.fragment i).settings = s.settings := by simp [State.settings]
@[simp] theorem State.countLinkError_settings : s.countLinkError.settings = s.settings := by simp [State.settings]
@[simp] theorem State.configureSent_settings (rate : Nat) : (s.configureSent rate).settings = s.settings := by simp [State.settings]
@[simp] theorem State.transmit_settings : s.transmit.settings = s.settings := by simp [State.settings]
@[simp] theorem settle_settings (t : State) : (settle s t).settings = t.settings := by simp [State.settings]

theorem State.resetReleased_settings : s.resetReleased.settings = s.settings := by
  unfold State.resetReleased
  dsimp only
  split <;> rfl

end

/-! ### The Table Store keeps its protection settings (R121) -/

section
variable (t : TableStore)

@[simp] theorem TableStore.setBank_protection (n : BankName) (b : Bank) : (t.setBank n b).protection = t.protection := by
  rw [TableStore.setBank_eq]

@[simp] theorem TableStore.setStandby_protection (n : TableId) (v : Standby) : (t.setStandby n v).protection = t.protection := rfl

@[simp] theorem TableStore.failLoad_protection (n : TableId) (st : Status) : (t.failLoad n st).protection = t.protection := rfl

@[simp] theorem TableStore.endCopy_protection (c : CopyContext) : (t.endCopy c).protection = t.protection :=
  TableStore.setBank_protection ..

@[simp] theorem TableStore.failCommit_protection (n : TableId) (st : Status) : (t.failCommit n st).protection = t.protection := rfl

@[simp] theorem TableStore.completeFlip_protection (newest : Option JournalRecord) :
    (t.completeFlip newest).protection = t.protection := by
  unfold TableStore.completeFlip
  repeat' split
  all_goals rfl

end

/-- A change of the Table Store that keeps its protection settings leaves the settings as they are. -/
theorem State.withTables_settings (s : State) {t : TableStore} (h : t.protection = s.tables.protection) :
    State.settings { s with tables := t } = s.settings := by
  simp only [State.settings, h]

@[simp] theorem State.endValidation_settings (s : State) : s.endValidation.settings = s.settings := by
  unfold State.endValidation
  split
  · exact State.withTables_settings s (TableStore.failCommit_protection ..)
  · rfl

@[simp] theorem State.recovered_settings (s : State) : s.recovered.settings = s.settings :=
  State.withTables_settings s (TableStore.completeFlip_protection ..)

@[simp] theorem State.recordEffects_settings (s : State) (r : JournalRecord) : (s.recordEffects r).settings = s.settings :=
  State.withTables_settings s (TableStore.rewriteLive_protection ..)

@[simp] theorem State.flip_settings (s : State) (r : JournalRecord) : (s.flip r).settings = s.settings :=
  State.withTables_settings s (TableStore.setBank_protection ..)

@[simp] theorem State.replayed_settings (s : State) : s.replayed.settings = s.settings := by
  have hkept : (if s.tables.valid then s.tables.rewriteLive (replayTables (s.journal.recordsAbove s.tables.basis)) else s.tables).protection
      = s.tables.protection := by
    split
    · exact TableStore.rewriteLive_protection ..
    · rfl
  exact State.withTables_settings s hkept

@[simp] theorem State.endReplay_settings (s : State) : s.endReplay.settings = s.settings := by
  unfold State.endReplay
  dsimp only
  split
  · repeat' split
    all_goals exact State.replayed_settings s
  · rfl

/-! ### The Desk Clock (Table 5, R75, R76, R80) -/

section
variable {c : Clock}

theorem Clock.Wf.request_wf (h : c.Wf) : ∀ q ∈ c.request, q.Wf := by
  obtain ⟨-, -, -, -, hrequest⟩ := h
  exact hrequest

/-- A second further stays within Table 5; at its end the clock is HALTED and unset (R76). -/
theorem Clock.advance_wf (h : c.Wf) : c.advance.Wf := by
  obtain ⟨hday, hminute, hsecond, hhalted, hrequest⟩ := h
  obtain ⟨e, -⟩ | ⟨e, hroom⟩ | ⟨e, hroom⟩ | ⟨e, hroom⟩ | ⟨e, -⟩ := c.advance_cases <;> rw [e]
  · exact ⟨hday, hminute, hsecond, hhalted, hrequest⟩
  · exact ⟨hday, hminute, hroom, hhalted, hrequest⟩
  · exact ⟨hday, hroom, Nat.zero_le _, hhalted, hrequest⟩
  · exact ⟨hroom, Nat.zero_le _, Nat.zero_le _, hhalted, hrequest⟩
  · exact ⟨hday, hminute, hsecond, fun _ => rfl, hrequest⟩

theorem Clock.advanceBy_wf (edges : Nat) (h : c.Wf) : (Clock.advanceBy edges c).Wf := by
  induction edges generalizing c with
  | zero => exact h
  | succ n ih => exact ih (Clock.advance_wf h)

theorem ClockRequest.countEdge_wf {q : ClockRequest} (h : q.Wf) : q.countEdge.Wf := by
  obtain ⟨op, phase⟩ := q
  cases phase <;> exact h

theorem Clock.withRequest_wf (h : c.Wf) {request : Option ClockRequest} (hq : ∀ q ∈ request, q.Wf) :
    Clock.Wf { c with request := request } := by
  obtain ⟨hday, hminute, hsecond, hhalted, -⟩ := h
  exact ⟨hday, hminute, hsecond, hhalted, hq⟩

theorem Clock.withoutRequest_wf (h : c.Wf) : Clock.Wf { c with request := none } :=
  Clock.withRequest_wf h nofun

/-- A clock set to a time of its range is well formed (R80). -/
theorem Clock.counting_wf {day minute second : Nat} (hday : day ≤ lastDay) (hminute : minute ≤ 1439) (hsecond : second ≤ 59) :
    Clock.Wf { c with day := day, minute := minute, second := second, isSet := true, halted := false, request := none } :=
  ⟨hday, hminute, hsecond, nofun, nofun⟩

theorem Clock.edge_wf (h : c.Wf) : c.edge.Wf := by
  refine Clock.withRequest_wf (c := { c.advance with lost := false }) (Clock.advance_wf h) fun q hq => ?_
  obtain ⟨before, hbefore, rfl⟩ := Option.map_eq_some_iff.mp hq
  exact ClockRequest.countEdge_wf (h.request_wf before hbefore)

theorem Clock.afterPowerOn_wf : Clock.afterPowerOn.Wf :=
  ⟨Nat.zero_le _, Nat.zero_le _, Nat.zero_le _, fun _ => rfl, nofun⟩

end

/-- An adjusted time is held to the day range (R80). -/
theorem adjustedTime_inRange (day minute : Nat) (by_ : Int) :
    (adjustedTime day minute by_).1 ≤ lastDay ∧ (adjustedTime day minute by_).2.1 ≤ 1439 := by
  have hheld := Nat.min_le_left lastMinuteCount ((day * 1440 + minute : Nat) + by_).toNat
  exact ⟨(Nat.div_le_div_right hheld).trans (by decide), Nat.le_of_lt_succ (Nat.mod_lt _ (by decide))⟩

/-- A request served at its turn stays in its ranges, with the new time it then carries (R80). -/
theorem State.clockTurn_wf {s : State} (hclock : s.clock.Wf) {q : ClockRequest} (h : q.Wf) : (s.clockTurn q.op).2.Wf := by
  obtain ⟨hop, -⟩ := h
  obtain ⟨-, -, hsecond, -⟩ := hclock
  obtain ⟨op, phase⟩ := q
  cases op with
  | set day minute =>
    obtain ⟨hday, hminute⟩ := hop
    exact ⟨⟨hday, hminute⟩, hday, hminute, Nat.zero_le _⟩
  | adjust minutes =>
    obtain ⟨hday, hminute⟩ := adjustedTime_inRange s.clock.day s.clock.minute minutes
    exact ⟨hop, hday, hminute, hsecond⟩

/-! ### The configuration record (Table 17, R184) -/

theorem textOf_inRange {width : Nat} {b t : List Byte} (h : textOf width b = some t) : textInRange width t := by
  simp only [textOf, Option.ite_none_right_eq_some, Option.some.injEq] at h
  obtain ⟨⟨hwidth, hchars, -⟩, rfl⟩ := h
  refine ⟨(List.length_take_le _ _).trans hwidth, fun c hc => ?_⟩
  exact of_decide_eq_true (List.all_eq_true.mp hchars c hc)

theorem StationConfig.ofBytes_inRange {b : List Byte} {c : StationConfig} (h : StationConfig.ofBytes b = some c) : c.InRange := by
  unfold StationConfig.ofBytes at h
  split at h
  · simp only [Option.ite_none_right_eq_some, Option.some.injEq] at h
    obtain ⟨⟨hrate, hdata, hparity, -⟩, rfl⟩ := h
    exact ⟨hrate, hdata, hparity⟩
  · cases h

/-- The record that a Configure's 162 bytes spell lies in the ranges of Table 17 (R184). -/
theorem ConfigRecord.ofBytes_inRange {b : List Byte} {c : ConfigRecord} (hlength : b.length = 162)
    (h : ConfigRecord.ofBytes b = some c) : c.InRange := by
  unfold ConfigRecord.ofBytes at h
  split at h
  case h_2 => cases h
  case h_1 s0 s1 s2 s3 title footer1 footer2 h0 h1 h2 h3 htitle hfooter1 hfooter2 =>
    simp only [Option.ite_none_right_eq_some, Option.some.injEq] at h
    obtain ⟨⟨hprinter, hlink, hidle, hidle', hwait, -, hguest, hlevels, hwater, hwater', hdesk, hnotice, -⟩, rfl⟩ := h
    have hstations : ∀ i : Station, ((#v[s0, s1, s2, s3] : PerStation StationConfig)[i]).InRange
      | 0 => StationConfig.ofBytes_inRange h0
      | 1 => StationConfig.ofBytes_inRange h1
      | 2 => StationConfig.ofBytes_inRange h2
      | 3 => StationConfig.ofBytes_inRange h3
    have hmask : ∀ n < 2 ^ 18, (BitVec.ofNat 32 n).toNat < 2 ^ 18 := fun n hn => by
      rw [BitVec.toNat_ofNat]
      exact (Nat.mod_le _ _).trans_lt hn
    refine ⟨hstations, hprinter, hlink, hidle, hidle', hwait, hguest, ?_, hlevels, hwater, hwater', hmask _ hdesk, hmask _ hnotice,
      textOf_inRange htitle, textOf_inRange hfooter1, textOf_inRange hfooter2⟩
    simp [hlength]

theorem ConfigRecord.withMode_inRange {c : ConfigRecord} (h : c.InRange) (i : Station) (m : Mode) :
    ConfigRecord.InRange { c with stations := c.stations.set i { c.stations[i] with mode := m } } := by
  obtain ⟨hstations, hrest⟩ := h
  refine ⟨fun j => ?_, hrest⟩
  by_cases hij : i = j
  · subst hij
    simpa using hstations i
  · simpa [Fin.val_ne_of_ne hij] using hstations j

/-! ### The protection settings (R121, R122) -/

/-- The settings that a Set Protection stores: of the patch mask only the marks of R121 (R122, log 15). -/
theorem protectionOf_wf {patchMask loadMask : Byte} {low high complement lock : Nat} {p : Protection} (hhigh : high < 2 ^ 48)
    (h : protectionOf patchMask loadMask low high complement lock = some p) : p.Wf := by
  unfold protectionOf at h
  split at h
  · simp only [Option.ite_none_right_eq_some, Option.some.injEq] at h
    obtain ⟨⟨hbounds, hzero⟩, rfl⟩ := h
    refine ⟨?_, hbounds, hhigh, hzero⟩
    rw [BitVec.toNat_and]
    exact Nat.lt_of_le_of_lt Nat.and_le_right (by decide)
  · cases h

/-! ### Operations that change the settings -/

section
variable {s : State}

theorem State.SettingsWf.withClock (h : s.SettingsWf) {c : Clock} (hc : c.Wf) : State.SettingsWf { s with clock := c } := by
  obtain ⟨-, hrest⟩ := h
  exact ⟨hc, hrest⟩

theorem State.SettingsWf.withConfig (h : s.SettingsWf) {c : ConfigRecord} {stored : Option ConfigRecord} (hc : c.InRange)
    (hstored : ∀ r ∈ stored, r.InRange) : State.SettingsWf { s with config := c, configStore := stored } := by
  obtain ⟨hclock, hprotection, -, -⟩ := h
  exact ⟨hclock, hprotection, hc, hstored⟩

theorem State.setMode_settingsWf (h : s.SettingsWf) (i : Station) (m : Mode) : (s.setMode i m).SettingsWf := by
  exact (h.withConfig (ConfigRecord.withMode_inRange h.config i m) h.stored).of_settings (State.modeChanged_settings ..)

/-! #### The arbiter's grant: a command card may write a mode (R28, R42) -/

theorem State.command_settingsWf (h : s.SettingsWf) (i : Station) (n : Nat) : (s.command i n).SettingsWf := by
  have hshown : (s.display i .commandOk).SettingsWf := h.of_settings (State.display_settings ..)
  unfold State.command
  split
  · split
    · exact h.of_settings (State.beginClose_settings ..)
    · exact hshown
  · exact State.setMode_settingsWf hshown i _
  · exact State.setMode_settingsWf hshown i _
  · exact State.setMode_settingsWf hshown i _
  · exact h.of_settings ((State.display_settings ..).trans (State.reprint_settings s))
  · exact h.of_settings ((State.display_settings ..).trans (State.resumePrinter_settings s))
  · exact h.of_settings ((State.display_settings ..).trans (State.clearConditions_settings ..))
  · exact State.setMode_settingsWf h i _
  · exact h

theorem State.commandCard_settingsWf (h : s.SettingsWf) (i : Station) (n : Nat) : (s.commandCard i n).SettingsWf := by
  unfold State.commandCard
  split
  · exact State.command_settingsWf (h.of_settings (State.onSession_settings ..)) i n
  · exact h.of_settings (State.display_settings ..)

theorem State.grantIdle_settingsWf (h : s.SettingsWf) (i : Station) (scan : ScanRecord) : (s.grantIdle i scan).SettingsWf := by
  have htaken : (s.takeScan i scan).SettingsWf := h.of_settings (State.takeScan_settings ..)
  unfold State.grantIdle
  dsimp only
  split
  · split
    · exact htaken.of_settings (State.display_settings ..)
    all_goals exact htaken
  · split <;> exact htaken
  · exact htaken
  · exact State.commandCard_settingsWf htaken i _
  all_goals exact htaken

theorem State.grantOpen_settingsWf (h : s.SettingsWf) (i : Station) (scan : ScanRecord) : (s.grantOpen i scan).SettingsWf := by
  have htaken : (s.takeScan i scan).SettingsWf := h.of_settings (State.takeScan_settings ..)
  unfold State.grantOpen
  split
  · exact htaken
  · split
    · exact htaken.of_settings (State.beginClose_settings ..)
    · exact h.of_settings (State.beginClose_settings ..)
  · exact htaken
  · exact (State.commandCard_settingsWf htaken i _).of_settings (State.restartIdle_settings ..)
  all_goals exact htaken

theorem State.grant_settingsWf (h : s.SettingsWf) : s.grant.SettingsWf := by
  unfold State.grant
  split
  · split
    · exact h
    · next i _ =>
      split
      · exact h
      · have hgranted : State.SettingsWf { s with lastGranted := i } := h
        dsimp only
        split
        · exact State.grantIdle_settingsWf hgranted i _
        · exact State.grantOpen_settingsWf hgranted i _
        · exact h
  · exact h

/-! #### Turns and completions: the clock's request (R80) -/

theorem State.serveClock_settingsWf (h : s.SettingsWf) : s.serveClock.SettingsWf := by
  unfold State.serveClock
  split
  · exact h
  · next q hq =>
    split
    · exact h.withClock (Clock.withoutRequest_wf h.clock)
    · refine h.withClock (Clock.withRequest_wf h.clock ?_)
      rintro _ ⟨⟩
      exact State.clockTurn_wf h.clock (h.clock.request_wf q hq)

theorem State.serveRecorded_settingsWf (h : s.SettingsWf) (r : Requester) : (s.serveRecorded r).SettingsWf := by
  cases r with
  | engine => exact h.of_settings (State.serveEngine_settings ..)
  | clock => exact State.serveClock_settingsWf h
  | patch =>
    simp only [State.serveRecorded]
    split <;> exact h
  | commit | close | restart => exact h

theorem State.turn_settingsWf (h : s.SettingsWf) : s.turn.SettingsWf := by
  have hpopped : s.popRequest.SettingsWf := h
  unfold State.turn
  split
  · split
    · exact h
    · split
      · exact State.serveRecorded_settingsWf hpopped _
      · exact hpopped.of_settings (State.serveEngine_settings ..)
      · exact h
  · exact h

theorem State.setClock_settingsWf (h : s.SettingsWf) : s.setClock.SettingsWf := by
  unfold State.setClock
  split
  · next hq =>
    obtain ⟨-, hday, hminute, hsecond⟩ := h.clock.request_wf _ hq
    exact h.withClock (Clock.advanceBy_wf _ (Clock.counting_wf hday hminute hsecond))
  · exact h

theorem State.ownerEffects_settingsWf (h : s.SettingsWf) (r : JournalRecord) (o : Requester) : (s.ownerEffects r o).SettingsWf := by
  cases o with
  | engine =>
    simp only [State.ownerEffects]
    split
    · exact h.of_settings (State.applyVerdict_settings ..)
    · exact h
  | commit => exact h.of_settings (State.flip_settings s r)
  | clock => exact State.setClock_settingsWf h
  | close i => exact h.of_settings (State.discardScans_settings ..)
  | patch | restart => exact h

theorem State.completeWrite_settingsWf (h : s.SettingsWf) : s.completeWrite.SettingsWf := by
  unfold State.completeWrite
  split
  · exact State.ownerEffects_settingsWf (h.of_settings (State.recordEffects_settings s _)) _ _
  · exact h

/-! #### The configuration record stored, starts and a power loss (R122, R184, R192) -/

theorem State.stationStored_settings (old s : State) (i : Station) : (State.stationStored old s i).settings = s.settings := by
  unfold State.stationStored State.lineChanged
  rw [State.modeChanged_settings]
  split <;> rfl

theorem State.rateStored_settings (s : State) : s.rateStored.settings = s.settings := by
  unfold State.rateStored
  split <;> rfl

theorem State.configureDone_settingsWf (h : s.SettingsWf) {c : ConfigRecord} (hc : c.InRange) : (s.configureDone c).SettingsWf := by
  have hstored : State.SettingsWf { s with config := c, configStore := none } := h.withConfig hc nofun
  refine State.SettingsWf.of_settings ?_ (State.rateStored_settings _)
  exact List.foldlRecOn (motive := State.SettingsWf) _ _ hstored fun _ ht i _ => ht.of_settings (State.stationStored_settings s _ i)

theorem State.resetBlocks_settingsWf (h : s.SettingsWf) : s.resetBlocks.SettingsWf := by
  obtain ⟨hclock, hprotection, hconfig, -⟩ := h
  exact ⟨Clock.withoutRequest_wf hclock, hprotection, hconfig, nofun⟩

theorem State.powerOn_settingsWf (h : s.SettingsWf) : s.powerOn.SettingsWf := by
  obtain ⟨-, hrest⟩ := State.resetBlocks_settingsWf h
  exact ⟨Clock.afterPowerOn_wf, hrest⟩

theorem State.restartNow_settingsWf (h : s.SettingsWf) : s.restartNow.SettingsWf := by
  obtain e | ⟨e, -⟩ := State.restartNow_cases s <;> rw [e]
  · exact h
  · exact State.resetBlocks_settingsWf h

theorem State.repaired_settings (s : State) : s.repaired.settings = s.settings := by
  unfold State.repaired
  split <;> rfl

theorem State.enterReset_settingsWf (h : s.SettingsWf) : s.enterReset.SettingsWf := by
  have hreset := State.resetBlocks_settingsWf (h.of_settings (State.repaired_settings s))
  obtain e | ⟨e, -⟩ | ⟨e, -⟩ := State.enterReset_cases s <;> rw [e]
  · exact h
  · exact hreset
  · exact hreset

/-- A power loss leaves the record in force or the one being stored (R184). -/
theorem State.losePower_settingsWf (h : s.SettingsWf) (left : SlotCut) (stored : Bool) : (s.losePower left stored).SettingsWf := by
  unfold State.losePower
  split
  · exact h
  · refine h.withConfig ?_ nofun
    split
    · next c hc =>
      split
      · exact h.stored c hc
      · exact h.config
    · exact h.config

/-! ### Requests and the link (R173 to R184) -/

theorem State.acceptClock_settingsWf (h : s.SettingsWf) {op : ClockOp} (hop : ClockRequest.Wf { op := op, phase := .awaitingTurn }) :
    (s.acceptClock op).state.SettingsWf := by
  refine h.withClock (Clock.withRequest_wf h.clock ?_)
  rintro _ ⟨⟩
  exact hop

theorem State.answerClockSet_settingsWf (h : s.SettingsWf) (day minute : Nat) : (s.answerClockSet day minute).state.SettingsWf := by
  unfold State.answerClockSet
  split
  · exact h
  · split
    · exact h
    · next hrange => exact State.acceptClock_settingsWf h ⟨by dsimp only; omega, trivial⟩

theorem State.answerClockAdjust_settingsWf (h : s.SettingsWf) (minutes : Int) : (s.answerClockAdjust minutes).state.SettingsWf := by
  unfold State.answerClockAdjust
  split
  · exact h
  · split
    · exact h
    · next hrange =>
      split
      · exact h
      · exact State.acceptClock_settingsWf h ⟨by dsimp only; omega, trivial⟩

theorem State.answerStationControl_settingsWf (h : s.SettingsWf) (station action mode : Byte) :
    (s.answerStationControl station action mode).state.SettingsWf := by
  unfold State.answerStationControl
  split
  · exact h
  · split
    · split
      · exact State.setMode_settingsWf h _ _
      · exact h
    · split
      · exact h.of_settings (State.closeFromOutside_settings ..)
      · exact h
    · exact h

theorem State.answerConfigure_settingsWf (h : s.SettingsWf) {record : List Byte} (hlength : record.length = 162) :
    (s.answerConfigure record).state.SettingsWf := by
  unfold State.answerConfigure
  split
  · exact h
  · split
    · next c hc =>
      refine h.withConfig h.config ?_
      rintro _ ⟨⟩
      exact ConfigRecord.ofBytes_inRange hlength hc
    · exact h

theorem State.answerSetProtection_settingsWf (h : s.SettingsWf) {settings : Option Protection} (hp : ∀ p ∈ settings, p.Wf) :
    (s.answerSetProtection settings).state.SettingsWf := by
  unfold State.answerSetProtection
  split
  · exact h
  · split
    · obtain ⟨hclock, -, hrest⟩ := h
      exact ⟨hclock, hp _ rfl, hrest⟩
    · exact h

theorem State.answerPrinter_settings (s : State) (action : Nat) : (s.answerPrinter action).state.settings = s.settings := by
  unfold State.answerPrinter
  split
  · rfl
  · split
    · exact State.resumePrinter_settings s
    · rfl
  · rfl
  · exact State.reprint_settings s
  · rfl

theorem State.answerClear_settings (s : State) (mask : BitVec 32) : (s.answerClear mask).state.settings = s.settings := by
  unfold State.answerClear
  split
  · rfl
  · exact State.clearConditions_settings s mask

/-- Only the requests for the clock, a mode, a Configure and Set Protection reach the settings (R26, R79, R122, R184). -/
theorem State.serve_settingsWf (h : s.SettingsWf) {r : Request} (hfits : s.fits r = true) : (s.serve r).state.SettingsWf := by
  cases r with
  | clockSet => exact State.answerClockSet_settingsWf h _ _
  | clockAdjust => exact State.answerClockAdjust_settingsWf h _
  | stationControl => exact State.answerStationControl_settingsWf h _ _ _
  | configure => exact State.answerConfigure_settingsWf h (beq_iff_eq.mp hfits)
  | setProtection _ _ _ high => exact State.answerSetProtection_settingsWf h fun _ hp => protectionOf_wf high.isLt hp
  | printerControl => exact h.of_settings (State.answerPrinter_settings ..)
  | clearConditions => exact h.of_settings (State.answerClear_settings ..)
  | readEntry => exact h.of_settings (by rw [State.serve, State.answerReadEntry_state])
  | access | leave | configureRead | journalRead | journalRelease | setCodes | setCodesEmpty | restart => exact h
  | statusRead =>
    simp only [State.serve, State.statusRead]
    split <;> exact h
  | commitSet | patchBorrower | patchItem =>
    simp only [State.serve, State.answerCommitSet, State.answerPatch]
    repeat' split
    all_goals exact h
  | beginTable | loadEntries | endTable | abortLoad | copyTable =>
    refine h.of_settings ?_
    simp only [State.serve, State.answerBeginTable, State.answerLoadEntries, State.answerEndTable, State.answerAbortLoad,
      State.answerCopyTable]
    repeat' split
    all_goals simp [State.settings, State.deny, State.done]

theorem State.takeFrame_settingsWf (h : s.SettingsWf) (type : Nat) (p : Parsed) : (s.takeFrame type p).SettingsWf := by
  obtain e | ⟨e, -⟩ | ⟨e, -⟩ := State.takeFrame_cases s type p <;> rw [e]
  · exact h
  · exact h.of_settings (State.countLinkError_settings s)
  · obtain ⟨st, ea⟩ | ⟨r, -, hfits, ea⟩ := State.answer_cases s type p <;> rw [ea]
    · exact h
    · exact State.serve_settingsWf h hfits

theorem State.linkCharacter_settingsWf (h : s.SettingsWf) (b : Byte) (stop : Bool) : (s.linkCharacter b stop).SettingsWf := by
  have hkept : State.SettingsWf { s with link := (s.link.receive b).1 } := h
  obtain e | e | ⟨e, -⟩ | ⟨e, -⟩ | ⟨type, payload, -, e⟩ := State.linkCharacter_cases s b stop <;> rw [e]
  · exact h
  · exact h
  · exact h
  · exact hkept.of_settings (State.countLinkError_settings _)
  · exact State.takeFrame_settingsWf hkept _ _

theorem State.afterFrame_settingsWf (h : s.SettingsWf) (item : TxItem) : (s.afterFrame item).SettingsWf := by
  unfold State.afterFrame
  split
  · exact h
  · split
    · exact h
    · unfold State.restartSent
      split
      · exact State.restartNow_settingsWf (s := { s with life := .waitRestart, link := { s.link with tx := [] } }) h
      · exact h
    · exact h.of_settings (State.configureSent_settings ..)

theorem State.frameSent_settingsWf (h : s.SettingsWf) : s.frameSent.SettingsWf := by
  unfold State.frameSent
  split
  · exact State.afterFrame_settingsWf (s := { s with link := { s.link with sending := none } }) h _
  · exact h

end

/-! ### Every command -/

theorem settingsWf_of_finish {s t u : State} (h : u.SettingsWf) (e : finish s u = .next t) : t.SettingsWf := by
  rw [finish_next] at e
  cases e
  exact h.of_settings (settle_settings s u)

theorem settingsWf_of_finishStore {s t u : State} (h : u.SettingsWf) (e : finishStore s u = .next t) : t.SettingsWf :=
  settingsWf_of_finish (State.restartNow_settingsWf (h.of_settings (settle_settings s u))) e

/-- A guarded effect keeps the ranges when the effect does. -/
theorem settingsWf_ite {s u : State} {c : Prop} [Decidable c] (h : s.SettingsWf) (hu : u.SettingsWf) :
    (if c then u else s).SettingsWf := by
  split
  · exact hu
  · exact h

theorem exec_keeps_settingsWf {s t : State} (c : Instr) (h : s.SettingsWf) (e : exec c s = .next t) : t.SettingsWf := by
  cases c with
  | wandCharacterComplete => exact settingsWf_of_finish (settingsWf_ite h (h.of_settings (State.wandComplete_settings ..))) e
  | assemblerStep => exact settingsWf_of_finish (settingsWf_ite h (h.of_settings (State.assemblerStep_settings ..))) e
  | gapTimerExpiry => exact settingsWf_of_finish (settingsWf_ite h (h.of_settings (State.fragment_settings ..))) e
  | selectorChange i level =>
    exact settingsWf_of_finish (settingsWf_ite (s := s.selectorPin i level) (u := (s.selectorPin i level).selectorMoved i level) h
      (h.of_settings (State.modeChanged_settings ..))) e
  | arbiterGrant => exact settingsWf_of_finish (State.grant_settingsWf h) e
  | idleTimerExpiry => exact settingsWf_of_finish (settingsWf_ite h (h.of_settings (State.beginClose_settings ..))) e
  | slipWaitExpiry =>
    refine settingsWf_of_finish ?_ e
    split
    · exact h.of_settings (State.dropWaiting_settings ..)
    · exact h
  | slipReoffer =>
    refine settingsWf_of_finish ?_ e
    split
    · exact h.of_settings (State.takeWaiting_settings ..)
    · exact h
  | journalTurn => exact settingsWf_of_finish (State.turn_settingsWf h) e
  | recordWriteCompletion => exact settingsWf_of_finishStore (State.completeWrite_settingsWf h) e
  | replayEnd => exact settingsWf_of_finish (h.of_settings (State.endReplay_settings s)) e
  | eraseComplete => exact settingsWf_of_finishStore (settingsWf_ite (u := s.eraseDone) h h) e
  | copyEnd =>
    refine settingsWf_of_finish ?_ e
    split
    · exact h.of_settings (State.withTables_settings s (TableStore.endCopy_protection ..))
    · exact h
  | validationEnd => exact settingsWf_of_finish (settingsWf_ite h (h.of_settings (State.endValidation_settings s))) e
  | configureStoreComplete =>
    refine settingsWf_of_finishStore ?_ e
    split
    · next c _ hc => exact State.configureDone_settingsWf h (h.stored c hc)
    · exact h
  | timebaseEdge =>
    refine settingsWf_of_finish ?_ e
    split
    · exact h
    · exact h.withClock (Clock.edge_wf h.clock)
  | linkCharacter b stop => exact settingsWf_of_finish (State.linkCharacter_settingsWf h b stop) e
  | transmitFrameStart => exact settingsWf_of_finish (h.of_settings (State.transmit_settings s)) e
  | transmitFrameEnd => exact settingsWf_of_finish (State.frameSent_settingsWf h) e
  | powerOn => exact settingsWf_of_finish (settingsWf_ite h (State.powerOn_settingsWf h)) e
  | resetLineAssert => exact settingsWf_of_finish (u := s.resetAsserted) h e
  | resetEntered => exact settingsWf_of_finish (State.enterReset_settingsWf h) e
  | resetLineRelease => exact settingsWf_of_finish (h.of_settings (State.resetReleased_settings s)) e
  | recoveryComplete => exact settingsWf_of_finish (settingsWf_ite h (h.of_settings (State.recovered_settings s))) e
  | powerLoss left stored => exact settingsWf_of_finish (State.losePower_settingsWf h left stored) e
  | wandCharacterStart | wandWaitMarkEnd | outcomePatternTimer | outcomePatternEnd | staffWindowExpiry | paperOutChange
  | maintenanceChange | eraseStart | timebaseLoss | printerByteAccepted | printerReadyChange | printerStallExpiry | linkGapTimeout
  | linkWaitMarkEnd | linkBreak =>
    exact settingsWf_of_finish (by split <;> exact h) e
  | _ => exact settingsWf_of_finish (State.takeFrame_settingsWf h _ _) e

/-- Settles O58: an operation leaves the settings as they are or keeps each in its ranges, and a step is a command or nothing. -/
theorem stepsKeepSettings : Obligations.StepsKeepSettings := by
  intro s t h e
  unfold step at e
  split at e
  · cases e
    exact h
  · next c rest _ => exact exec_keeps_settingsWf (s := { s with pending := rest }) c h e

end Sys2Proof.Machine
end

section
/-! SUPPORT. Due dates (R83 to R94): what a roll passes and where it ends, the limit day, and the computations of a day loan and of an hour loan
by their stages. -/

namespace Sys2Proof.Machine

open Config

/-! ### Rolls (R85, R86) -/

section
variable (c : Calendar)

/-- A forward roll with some steps left passes closed days alone, and stays on a closed day only for want of steps or of days (R85). -/
theorem Calendar.forward_ends (steps n : Nat) (hn : n ≤ lastDay) :
    n ≤ c.forward steps n ∧ c.forward steps n ≤ n + steps ∧ c.forward steps n ≤ lastDay
      ∧ (∀ d, n ≤ d → d < c.forward steps n → c.closed d = true)
      ∧ (c.closed (c.forward steps n) = true → c.forward steps n = n + steps ∨ c.forward steps n = lastDay) := by
  induction steps generalizing n with
  | zero => exact ⟨le_rfl, le_rfl, hn, fun d h h' => absurd h' h.not_gt, fun _ => .inl rfl⟩
  | succ k ih =>
    by_cases hstep : c.closed n = true ∧ n < lastDay
    · obtain ⟨hclosed, hlast⟩ := hstep
      have e : c.forward (k + 1) n = c.forward k (n + 1) := by simp [Calendar.forward, hclosed, hlast]
      obtain ⟨hlow, hhigh, hend, hpassed, hstops⟩ := ih (n + 1) hlast
      rw [e]
      refine ⟨by omega, by omega, hend, fun d hd hd' => ?_, fun h => (hstops h).imp_left (by omega)⟩
      obtain rfl | hlt := hd.eq_or_lt
      · exact hclosed
      · exact hpassed d hlt hd'
    · have e : c.forward (k + 1) n = n := by simpa [Calendar.forward] using fun h h' => absurd ⟨h, h'⟩ hstep
      rw [e]
      refine ⟨le_rfl, by omega, hn, fun d h h' => absurd h' h.not_gt, fun h => .inr ?_⟩
      exact hn.antisymm (Nat.not_lt.mp fun h' => hstep ⟨h, h'⟩)

/-- A backward roll with some steps left, bounded below by today (R86). -/
theorem Calendar.backward_ends {today : Nat} (steps n : Nat) (hn : today ≤ n) :
    today ≤ c.backward today steps n ∧ c.backward today steps n ≤ n ∧ n ≤ c.backward today steps n + steps
      ∧ (∀ d, c.backward today steps n < d → d ≤ n → c.closed d = true)
      ∧ (c.closed (c.backward today steps n) = true → n = c.backward today steps n + steps ∨ c.backward today steps n = today) := by
  induction steps generalizing n with
  | zero => exact ⟨hn, le_rfl, le_rfl, fun d h h' => absurd h' h.not_ge, fun _ => .inl rfl⟩
  | succ k ih =>
    by_cases hstep : c.closed n = true ∧ today < n
    · obtain ⟨hclosed, htoday⟩ := hstep
      have e : c.backward today (k + 1) n = c.backward today k (n - 1) := by simp [Calendar.backward, hclosed, htoday]
      obtain ⟨hlow, hhigh, hend, hpassed, hstops⟩ := ih (n - 1) (by omega)
      rw [e]
      refine ⟨hlow, by omega, by omega, fun d hd hd' => ?_, fun h => (hstops h).imp_left (by omega)⟩
      obtain rfl | hlt := hd'.eq_or_lt
      · exact hclosed
      · exact hpassed d hd (by omega)
    · have e : c.backward today (k + 1) n = n := by simpa [Calendar.backward] using fun h h' => absurd ⟨h, h'⟩ hstep
      rw [e]
      refine ⟨hn, le_rfl, by omega, fun d h h' => absurd h' h.not_ge, fun h => .inr ?_⟩
      exact (Nat.not_lt.mp fun h' => hstep ⟨h, h'⟩).antisymm hn

theorem Calendar.le_rollForward {n : Nat} (hn : n ≤ lastDay) : n ≤ c.rollForward n := by
  obtain ⟨hlow, -⟩ := c.forward_ends rollLimit n hn
  exact hlow

theorem Calendar.rollForward_le_lastDay {n : Nat} (hn : n ≤ lastDay) : c.rollForward n ≤ lastDay := by
  obtain ⟨-, -, hlast, -⟩ := c.forward_ends rollLimit n hn
  exact hlast

theorem Calendar.today_le_rollBackward {today n : Nat} (hn : today ≤ n) : today ≤ c.rollBackward today n := by
  obtain ⟨hlow, -⟩ := c.backward_ends rollLimit n hn
  exact hlow

theorem Calendar.rollBackward_le {today n : Nat} (hn : today ≤ n) : c.rollBackward today n ≤ n := by
  obtain ⟨-, hhigh, -⟩ := c.backward_ends rollLimit n hn
  exact hhigh

end

/-! ### The limit day (R89) -/

/-- A day is the limit day of a loan: the earlier of the expiry, when there is one, and the cap, when there is one that is not past (R89). -/
def LimitIs (today expiry cap l : Nat) : Prop :=
  (expiry ≠ 0 ∧ l = expiry ∨ cap ≠ 0 ∧ today ≤ cap ∧ l = cap) ∧ (expiry ≠ 0 → l ≤ expiry) ∧ (cap ≠ 0 → today ≤ cap → l ≤ cap)

section
variable {today expiry cap l n : Nat}

theorem limitDay_eq_some_iff : limitDay today expiry cap = some l ↔ LimitIs today expiry cap l := by
  unfold limitDay LimitIs
  split
  · split <;> simp only [Option.some.injEq] <;> omega
  · split
    · simp only [Option.some.injEq]
      omega
    · simp only [reduceCtorEq, false_iff]
      omega

theorem LimitIs.today_le (h : LimitIs today expiry cap l) (hexpiry : expiry = 0 ∨ today ≤ expiry) : today ≤ l := by
  obtain ⟨hl, -⟩ := h
  omega

/-- There is a limit day before a day exactly where one of the limits that count is before it. -/
theorem exists_limit_lt_iff :
    (∃ l, LimitIs today expiry cap l ∧ l < n) ↔ expiry ≠ 0 ∧ expiry < n ∨ cap ≠ 0 ∧ today ≤ cap ∧ cap < n := by
  constructor
  · rintro ⟨l, ⟨hl, -⟩, hlt⟩
    omega
  · intro h
    have hsome : (limitDay today expiry cap).isSome = true := by
      unfold limitDay
      split
      · split <;> rfl
      · rw [if_pos (by omega)]
        rfl
    obtain ⟨l, hl⟩ := Option.isSome_iff_exists.mp hsome
    obtain ⟨hwhich, hleExpiry, hleCap⟩ := limitDay_eq_some_iff.mp hl
    exact ⟨l, ⟨hwhich, hleExpiry, hleCap⟩, by omega⟩

/-- Where no limit day lies before a day, the day passes no limit that counts. -/
theorem le_limits_of_not_exists (h : ¬∃ l, LimitIs today expiry cap l ∧ l < n) :
    (expiry ≠ 0 → n ≤ expiry) ∧ (cap ≠ 0 → today ≤ cap → n ≤ cap) := by
  rw [exists_limit_lt_iff] at h
  omega

theorem not_exists_limit_of_some (h : limitDay today expiry cap = some l) (hle : ¬l < n) :
    ¬∃ l, LimitIs today expiry cap l ∧ l < n := by
  rintro ⟨k, hk, hlt⟩
  obtain rfl : l = k := Option.some.inj (h.symm.trans (limitDay_eq_some_iff.mpr hk))
  exact hle hlt

theorem not_exists_limit_of_none (h : limitDay today expiry cap = none) : ¬∃ l, LimitIs today expiry cap l ∧ l < n := by
  rintro ⟨k, hk, -⟩
  cases h.symm.trans (limitDay_eq_some_iff.mpr hk)

theorem LimitIs.unique {k : Nat} (h : LimitIs today expiry cap l) (hk : LimitIs today expiry cap k) : l = k :=
  Option.some.inj ((limitDay_eq_some_iff.mpr h).symm.trans (limitDay_eq_some_iff.mpr hk))

end

/-! ### Day loans (R87 to R90) -/

section
variable {c : Calendar} {today period expiry cap l : Nat}

/-- A day loan whose roll passes its limit day (R89). -/
theorem Calendar.dayLoan_of_limit (hl : LimitIs today expiry cap l) (hlt : l < c.rollForward (min (today + period) lastDay)) :
    c.dayLoan today period expiry cap
      = { day := c.rollBackward today l, minute := c.closeMinute (c.rollBackward today l),
          flags := {
            dateSaturated := decide (lastDay < today + period),
            rollLimit := c.closed (c.rollForward (min (today + period) lastDay)) || c.closed (c.rollBackward today l),
            clamped := true, beyondHorizon := decide (c.header.horizon < c.rollBackward today l) } } := by
  simp only [Calendar.dayLoan, limitDay_eq_some_iff.mpr hl, if_pos hlt]

/-- A day loan whose roll passes no limit day. -/
theorem Calendar.dayLoan_of_no_limit
    (h : ¬∃ l, LimitIs today expiry cap l ∧ l < c.rollForward (min (today + period) lastDay)) :
    c.dayLoan today period expiry cap
      = { day := c.rollForward (min (today + period) lastDay),
          minute := c.closeMinute (c.rollForward (min (today + period) lastDay)),
          flags := {
            dateSaturated := decide (lastDay < today + period),
            rollLimit := c.closed (c.rollForward (min (today + period) lastDay)),
            beyondHorizon := decide (c.header.horizon < c.rollForward (min (today + period) lastDay)) } } := by
  simp only [Calendar.dayLoan]
  split
  · next l hl => exact if_neg fun hlt => h ⟨l, limitDay_eq_some_iff.mp hl, hlt⟩
  · rfl

end

/-- Settles O21: the roll passes the limit day or no limit, and each case is one equation. -/
theorem dayLoanDueTime : Obligations.DayLoanDueTime := by
  intro c today period expiry cap htoday hexpiry hcap due rolled limitIs
  have hstart : min (today + period) lastDay ≤ lastDay := Nat.min_le_right ..
  have hrolled : today ≤ rolled := (by omega : today ≤ min (today + period) lastDay).trans (c.le_rollForward hstart)
  have hlast : rolled ≤ lastDay := c.rollForward_le_lastDay hstart
  have hclamps := exists_limit_lt_iff (today := today) (expiry := expiry) (cap := cap) (n := rolled)
  by_cases hlimit : ∃ l, LimitIs today expiry cap l ∧ l < rolled
  · obtain ⟨l, hl, hlt⟩ := hlimit
    have hday : today ≤ l := hl.today_le (by omega)
    have hback := c.rollBackward_le hday
    have ⟨_, hleExpiry, hleCap⟩ := hl
    have e : due = _ := Calendar.dayLoan_of_limit hl hlt
    rw [e]
    refine ⟨c.today_le_rollBackward hday, by dsimp only; omega, rfl, fun h => hback.trans (hleExpiry h), fun h h' => hback.trans (hleCap h h'),
      nofun, fun l' hl' _ => ⟨rfl, ?_⟩, iff_of_true rfl (hclamps.mp ⟨l, hl, hlt⟩), decide_eq_true_iff, decide_eq_true_iff, rfl⟩
    rw [hl.unique hl']
  · have e : due = _ := Calendar.dayLoan_of_no_limit hlimit
    obtain ⟨hleExpiry, hleCap⟩ := le_limits_of_not_exists hlimit
    rw [e]
    exact ⟨hrolled, hlast, rfl, hleExpiry, hleCap, fun _ => rfl, fun l hl hlt => absurd ⟨l, hl, hlt⟩ hlimit,
      iff_of_false nofun (mt hclamps.mpr hlimit), decide_eq_true_iff, decide_eq_true_iff, rfl⟩

/-! ### Hour loans (R91 to R93) -/

section
variable {c : Calendar} {today minute hours expiry cap l : Nat}

theorem Calendar.sameDay_iff :
    c.sameDay today minute hours = true
      ↔ (c.closed today = false ∧ minute < c.closeMinute today) ∧ minute + 60 * hours ≤ c.closeMinute today := by
  simp only [Calendar.sameDay, Bool.and_eq_true, Bool.not_eq_true', decide_eq_true_eq]

theorem Calendar.hourBase_of_sameDay (h : c.sameDay today minute hours = true) :
    c.hourBase today minute hours = { day := today, minute := minute + 60 * hours, flags := {} } := if_pos h

theorem Calendar.hourBase_of_last (h : ¬c.sameDay today minute hours = true) (hlast : today = lastDay) :
    c.hourBase today minute hours = { day := lastDay, minute := c.closeMinute lastDay, flags := { dateSaturated := true } } :=
  (if_neg h).trans (if_pos hlast)

/-- On another day an hour loan falls due the remainder `r` after opening, and at closing where that is past it (R92). -/
theorem Calendar.hourBase_of_next {r : Nat} (h : ¬c.sameDay today minute hours = true) (hlast : today < lastDay)
    (hcounts : c.closed today = false ∧ minute < c.closeMinute today → c.closeMinute today + r = minute + 60 * hours)
    (hnot : ¬(c.closed today = false ∧ minute < c.closeMinute today) → r = 60 * hours) :
    c.hourBase today minute hours
      = let next := c.rollForward (today + 1)
        let short := c.closeMinute next < c.openMinute next + r
        { day := next, minute := if short then c.closeMinute next else c.openMinute next + r,
          flags := { rollLimit := c.closed next, shortClamped := decide short } } := by
  have hrest : (if !c.closed today && decide (minute < c.closeMinute today) then minute + 60 * hours - c.closeMinute today
      else 60 * hours) = r := by
    split
    · next hc =>
      simp only [Bool.and_eq_true, Bool.not_eq_true', decide_eq_true_eq] at hc
      have := hcounts hc
      omega
    · next hc =>
      simp only [Bool.and_eq_true, Bool.not_eq_true', decide_eq_true_eq] at hc
      exact (hnot hc).symm
  simp only [Calendar.hourBase, if_neg h, if_neg hlast.ne, hrest]
  split
  · next hs => simp only [hs, decide_true]
  · next hs => simp only [hs, decide_false]

/-- The remainder that an hour loan carries to another day (R92). -/
theorem Calendar.exists_remainder (h : ¬c.sameDay today minute hours = true) :
    ∃ r, (c.closed today = false ∧ minute < c.closeMinute today → c.closeMinute today + r = minute + 60 * hours) ∧
      (¬(c.closed today = false ∧ minute < c.closeMinute today) → r = 60 * hours) := by
  by_cases hc : c.closed today = false ∧ minute < c.closeMinute today
  · have hpast : ¬minute + 60 * hours ≤ c.closeMinute today := fun hle => h (Calendar.sameDay_iff.mpr ⟨hc, hle⟩)
    exact ⟨minute + 60 * hours - c.closeMinute today, fun _ => by omega, fun hn => absurd hc hn⟩
  · exact ⟨60 * hours, fun hy => absurd hy hc, fun _ => rfl⟩

/-- What holds of the time before the limit day in every case (R91, R92). -/
theorem Calendar.hourBase_bounds (htoday : today ≤ lastDay) :
    let base := c.hourBase today minute hours
    today ≤ base.day ∧ base.minute ≤ c.closeMinute base.day ∧ base.flags.clamped = false
      ∧ (base.flags.dateSaturated = true ↔ ¬c.sameDay today minute hours = true ∧ today = lastDay) := by
  by_cases hsame : c.sameDay today minute hours = true
  · have ⟨_, hopen⟩ := Calendar.sameDay_iff.mp hsame
    rw [Calendar.hourBase_of_sameDay hsame]
    exact ⟨le_rfl, hopen, rfl, iff_of_false nofun fun h => h.1 hsame⟩
  · obtain hlast | hlast := htoday.eq_or_lt
    · rw [Calendar.hourBase_of_last hsame hlast]
      exact ⟨htoday, le_rfl, rfl, iff_of_true rfl ⟨hsame, hlast⟩⟩
    · obtain ⟨r, hcounts, hnot⟩ := Calendar.exists_remainder hsame
      rw [Calendar.hourBase_of_next hsame hlast hcounts hnot]
      refine ⟨(Nat.le_succ _).trans (c.le_rollForward hlast), ?_, rfl, iff_of_false nofun fun h => hlast.ne h.2⟩
      dsimp only
      split
      · exact le_rfl
      · next h => exact Nat.not_lt.mp h

/-- An hour loan that would fall due after its limit day (R93). -/
theorem Calendar.hourLoan_of_limit (hl : LimitIs today expiry cap l) (hlt : l < (c.hourBase today minute hours).day) :
    c.hourLoan today minute hours expiry cap
      = c.judged
          { day := c.rollBackward today l, minute := c.closeMinute (c.rollBackward today l),
            flags := { (c.hourBase today minute hours).flags with
              clamped := true,
              rollLimit := (c.hourBase today minute hours).flags.rollLimit || c.closed (c.rollBackward today l) } } := by
  simp only [Calendar.hourLoan, limitDay_eq_some_iff.mpr hl, if_pos hlt]

/-- An hour loan that falls due after no limit day. -/
theorem Calendar.hourLoan_of_no_limit (h : ¬∃ l, LimitIs today expiry cap l ∧ l < (c.hourBase today minute hours).day) :
    c.hourLoan today minute hours expiry cap = c.judged (c.hourBase today minute hours) := by
  simp only [Calendar.hourLoan]
  split
  · next l hl => exact if_neg fun hlt => h ⟨l, limitDay_eq_some_iff.mp hl, hlt⟩
  · rfl

/-- No limit day that counts is before today. -/
theorem not_exists_limit_of_today {n : Nat} (hn : n = today) (hexpiry : expiry = 0 ∨ today ≤ expiry) :
    ¬∃ l, LimitIs today expiry cap l ∧ l < n := by
  rintro ⟨l, hl, hlt⟩
  have := hl.today_le hexpiry
  omega

end

/-- Settles O22: the time before the limit day by R91 and R92, and then the limit day, which takes its day and minute alone. -/
theorem hourLoanDueTime : Obligations.HourLoanDueTime := by
  intro c today minute hours expiry cap htoday hexpiry due counts sameDay next limitIs
  have hsame : c.sameDay today minute hours = true ↔ sameDay := Calendar.sameDay_iff
  obtain ⟨hday, hminute, hclamped, hsaturated⟩ := c.hourBase_bounds (minute := minute) (hours := hours) htoday
  rw [hsame] at hsaturated
  have hbaseSame := fun h : sameDay => Calendar.hourBase_of_sameDay (hsame.mpr h)
  have hbaseLast := fun h : ¬sameDay => Calendar.hourBase_of_last (mt hsame.mp h)
  have hbaseNext := fun (h : ¬sameDay) r => Calendar.hourBase_of_next (r := r) (mt hsame.mp h)
  have hnextDay : ¬sameDay → today < lastDay → (c.hourBase today minute hours).day = next := fun h hlast => by
    obtain ⟨r, hcounts, hnot⟩ := Calendar.exists_remainder (mt hsame.mp h)
    rw [hbaseNext h r hlast hcounts hnot]
  generalize hb : c.hourBase today minute hours = base at *
  by_cases hlimit : ∃ l, LimitIs today expiry cap l ∧ l < base.day
  · obtain ⟨l, hl, hlt⟩ := hlimit
    have hle : today ≤ l := hl.today_le hexpiry
    have hback := c.rollBackward_le hle
    have ⟨_, hleExpiry, hleCap⟩ := hl
    have e : due = _ := Calendar.hourLoan_of_limit hl (hb ▸ hlt)
    rw [e, hb]
    refine ⟨fun h => ?_, ⟨c.today_le_rollBackward hle, le_rfl⟩, fun h => hback.trans (hleExpiry h),
      fun h h' => hback.trans (hleCap h h'), fun _ => nofun, fun h hlast r hcounts hnot => ⟨?_, fun hno => ?_, fun k hk _ => ?_⟩,
      fun h hlast => ⟨?_, rfl, fun hno => ?_, fun k hk _ => ?_⟩, hsaturated, decide_eq_true_iff⟩
    · rw [hbaseSame h] at hlt
      exact absurd hle (Nat.not_le.mpr hlt)
    · rw [hbaseNext h r hlast hcounts hnot]
      exact decide_eq_true_iff
    · rw [hnextDay h hlast] at hlt
      exact absurd (hno l hl) (Nat.not_le.mpr hlt)
    · rw [hl.unique hk]
      exact ⟨rfl, rfl, rfl⟩
    · rw [hbaseLast h hlast]
      rfl
    · rw [hbaseLast h hlast] at hlt
      exact absurd (hno l hl) (Nat.not_le.mpr hlt)
    · rw [hl.unique hk]
      exact ⟨rfl, rfl⟩
  · obtain ⟨hleExpiry, hleCap⟩ := le_limits_of_not_exists hlimit
    have e : due = _ := Calendar.hourLoan_of_no_limit (hb ▸ hlimit)
    rw [e, hb]
    refine ⟨fun h => ?_, ⟨hday, hminute⟩, hleExpiry, hleCap, fun h _ hlast => hnextDay h hlast,
      fun h hlast r hcounts hnot => ⟨?_, fun _ => ⟨hnextDay h hlast, hclamped, ?_⟩, fun k hk hlt => ?_⟩,
      fun h hlast => ⟨?_, ?_, fun _ => ⟨?_, hclamped⟩, fun k hk hlt => ?_⟩, hsaturated, decide_eq_true_iff⟩
    · rw [hbaseSame h]
      exact ⟨rfl, rfl, rfl, rfl⟩
    · rw [hbaseNext h r hlast hcounts hnot]
      exact decide_eq_true_iff
    · rw [hbaseNext h r hlast hcounts hnot]
      rfl
    · exact absurd ⟨k, hk, hlt.trans_eq (hnextDay h hlast).symm⟩ hlimit
    · rw [hbaseLast h hlast]
      rfl
    · rw [hbaseLast h hlast]
      rfl
    · rw [hbaseLast h hlast]
      rfl
    · rw [hbaseLast h hlast] at hlimit
      exact absurd ⟨k, hk, hlt⟩ hlimit

/-! ### Rolls that end on a closed day (R85, R86) -/

/-- Settles O20: the two rolls by induction on their steps, and ROLL_LIMIT by the stages of each computation. -/
theorem rollsEndAsStated : Obligations.RollsEndAsStated := by
  refine ⟨fun c n => c.forward_ends rollLimit n, fun c today n hn => c.backward_ends rollLimit n hn, fun _ _ => rfl,
    fun c today period expiry cap => ?_, fun c today minute hours expiry cap => ⟨fun hsame hlast => ?_, fun h hexpiry => ?_⟩⟩
  · dsimp only
    split
    · next l hl =>
      split
      · next hlt => exact congrArg (·.flags.rollLimit) (Calendar.dayLoan_of_limit (limitDay_eq_some_iff.mp hl) hlt)
      · next hle => exact congrArg (·.flags.rollLimit) (Calendar.dayLoan_of_no_limit (not_exists_limit_of_some hl hle))
    · next hl => exact congrArg (·.flags.rollLimit) (Calendar.dayLoan_of_no_limit (not_exists_limit_of_none hl))
  · have hother : ¬c.sameDay today minute hours = true := fun h => by
      obtain ⟨⟨hopen, hbefore⟩, hfits⟩ := Calendar.sameDay_iff.mp h
      exact hsame ⟨hopen, hbefore, hfits⟩
    obtain ⟨r, hcounts, hnot⟩ := Calendar.exists_remainder hother
    have hbase := Calendar.hourBase_of_next hother hlast hcounts hnot
    have hday : (c.hourBase today minute hours).day = c.rollForward (today + 1) := by rw [hbase]
    have hroll : (c.hourBase today minute hours).flags.rollLimit = c.closed (c.hourBase today minute hours).day := by rw [hbase]
    rw [← hday, ← hroll]
    split
    · next l hl =>
      split
      · next hlt => exact congrArg (·.flags.rollLimit) (Calendar.hourLoan_of_limit (limitDay_eq_some_iff.mp hl) hlt)
      · next hle => exact congrArg (·.flags.rollLimit) (Calendar.hourLoan_of_no_limit (not_exists_limit_of_some hl hle))
    · next hl => exact congrArg (·.flags.rollLimit) (Calendar.hourLoan_of_no_limit (not_exists_limit_of_none hl))
  · have hbase : (c.hourBase today minute hours).day = today ∧ (c.hourBase today minute hours).flags.rollLimit = false := by
      by_cases hs : c.sameDay today minute hours = true
      · rw [Calendar.hourBase_of_sameDay hs]
        exact ⟨rfl, rfl⟩
      · have hlast : today = lastDay :=
          h.resolve_left fun ⟨hopen, hbefore, hfits⟩ => hs (Calendar.sameDay_iff.mpr ⟨⟨hopen, hbefore⟩, hfits⟩)
        rw [Calendar.hourBase_of_last hs hlast]
        exact ⟨hlast.symm, rfl⟩
    obtain ⟨hday, hroll⟩ := hbase
    rw [Calendar.hourLoan_of_no_limit (not_exists_limit_of_today hday hexpiry)]
    exact hroll

end Sys2Proof.Machine
end

section
/-! SUPPORT. The Desk Clock (R75 to R80): an edge case by case, the two requests by their answers, and the request's turn. -/

namespace Sys2Proof.Machine

open Config

/-! ### The time base (R75 to R77) -/

section
variable {c : Clock}

theorem Clock.advance_of_halted (h : c.halted = true) : c.advance = c := if_pos h

section
variable (hcounting : c.halted = false)
include hcounting

theorem Clock.advance_second (h : c.second < 59) : c.advance = { c with second := c.second + 1 } := by
  simp [Clock.advance, hcounting, h]

theorem Clock.advance_minute (h : c.second = 59) (hm : c.minute < 1439) :
    c.advance = { c with second := 0, minute := c.minute + 1 } := by
  simp [Clock.advance, hcounting, h, hm]

theorem Clock.advance_day (h : c.second = 59) (hm : c.minute = 1439) (hd : c.day < lastDay) :
    c.advance = { c with second := 0, minute := 0, day := c.day + 1 } := by
  simp [Clock.advance, hcounting, h, hm, hd]

theorem Clock.advance_end (h : c.second = 59) (hm : c.minute = 1439) (hd : c.day = lastDay) :
    c.advance = { c with halted := true, isSet := false } := by
  simp [Clock.advance, hcounting, h, hm, hd]

end
end

theorem exec_timebaseEdge {s : State} (h : s.life ≠ .off) :
    exec .timebaseEdge s
      = .next (settle s { s with
          clock := { s.clock.advance with lost := false, request := s.clock.request.map ClockRequest.countEdge } }) :=
  congrArg (finish s) (if_neg h)

theorem exec_timebaseLoss {s : State} (h : s.life ≠ .off) :
    exec .timebaseLoss s = .next (settle s { s with clock := { s.clock with lost := true } }) :=
  congrArg (finish s) (if_neg h)

/-- Settles O30: each carry is one equation of the clock's advance. -/
theorem timeBaseCounts : Obligations.TimeBaseCounts := by
  intro s hlife c request after result
  have hresult : result = after c.advance := exec_timebaseEdge hlife
  refine ⟨fun hh => ?_, fun hh hs => ?_, fun hh hs hm => ?_, fun hh hs hm hd => ?_, fun hh hs hm hd => ?_, exec_timebaseLoss hlife⟩
  · rw [hresult, Clock.advance_of_halted hh]
  · rw [hresult, Clock.advance_second hh hs]
  · rw [hresult, Clock.advance_minute hh hs hm]
  · rw [hresult, Clock.advance_day hh hs hm hd]
  · rw [hresult, Clock.advance_end hh hs hm hd]

/-! ### The requests (R79) -/

theorem signedOf_eq_toInt (b : Byte) : signedOf 8 b.toNat = b.toInt := by
  rw [signedOf, BitVec.toInt]
  have := b.isLt
  split <;> split <;> omega

theorem exec_clockSet (day minute : BitVec 16) (s : State) :
    exec (.clockSet day minute) s = finish s (s.takeRequest (.clockSet day minute)) := rfl

theorem exec_clockAdjust (minutes : Byte) (s : State) :
    exec (.clockAdjust minutes) s = finish s (s.takeRequest (.clockAdjust minutes)) := rfl

section
variable {s : State}

theorem State.answerClockSet_busy (h : s.clock.request.isSome = true) (day minute : Nat) :
    s.answerClockSet day minute = s.deny .busy := if_pos h

theorem State.answerClockAdjust_busy (h : s.clock.request.isSome = true) (minutes : Int) :
    s.answerClockAdjust minutes = s.deny .busy := if_pos h

section
variable (hfree : s.clock.request = none)
include hfree

theorem State.answerClockSet_range {day minute : Nat} (h : lastDay < day ∨ 1439 < minute) :
    s.answerClockSet day minute = s.deny .range := by
  simp [State.answerClockSet, hfree, h]

theorem State.answerClockSet_accepted {day minute : Nat} (hday : day ≤ lastDay) (hminute : minute ≤ 1439) :
    s.answerClockSet day minute = s.acceptClock (.set day minute) := by
  simp [State.answerClockSet, hfree, hday.not_gt, hminute.not_gt]

theorem State.answerClockAdjust_range {minutes : Int} (h : minutes < -15 ∨ 15 < minutes) :
    s.answerClockAdjust minutes = s.deny .range := by
  simp [State.answerClockAdjust, hfree, h]

theorem State.answerClockAdjust_of_range {minutes : Int} (hlow : -15 ≤ minutes) (hhigh : minutes ≤ 15) :
    s.answerClockAdjust minutes = if s.clock.isSet = true then s.acceptClock (.adjust minutes) else s.deny .state := by
  cases hset : s.clock.isSet <;> simp [State.answerClockAdjust, hfree, hlow.not_gt, hhigh.not_gt, hset]

end

/-! ### The turn (R80) -/

theorem State.serveClock_set {day minute : Nat} (h : s.clock.request = some { op := .set day minute, phase := .awaitingTurn }) :
    s.serveClock
      = State.write { s with clock := { s.clock with request := some (s.clockTurn (.set day minute)).2 } }
          (s.clockTurn (.set day minute)).1 .clock := by
  simp only [State.serveClock, h]

/-- An adjustment that meets a clear set flag is abandoned (R80). -/
theorem State.serveClock_abandoned {minutes : Int} (h : s.clock.request = some { op := .adjust minutes, phase := .awaitingTurn })
    (hset : s.clock.isSet = false) : s.serveClock = { s with clock := { s.clock with request := none } } := by
  simp only [State.serveClock, h, hset]

theorem State.serveClock_adjust {minutes : Int} (h : s.clock.request = some { op := .adjust minutes, phase := .awaitingTurn })
    (hset : s.clock.isSet = true) :
    s.serveClock
      = State.write { s with clock := { s.clock with request := some (s.clockTurn (.adjust minutes)).2 } }
          (s.clockTurn (.adjust minutes)).1 .clock := by
  simp only [State.serveClock, h, hset]

/-- The record and the request of an adjustment's turn, by the new time (R80). -/
theorem State.clockTurn_adjust {minutes : Int} {moved : Nat × Nat × Bool}
    (h : adjustedTime s.clock.day s.clock.minute minutes = moved) :
    s.clockTurn (.adjust minutes)
      = (let base := { s.recordBase .clockSet 15 with card := s.clock.day, item := s.clock.minute }
         { base with
           dueDay := moved.1, dueMinute := moved.2.1, aux0 := 1, aux1 := twosOf 8 minutes,
           flags := { base.flags with dateSaturated := moved.2.2 } },
         { op := .adjust minutes, phase := .writing moved.1 moved.2.1 s.clock.second 0 }) := by
  subst h
  rfl

end

/-- The moved time is held to the day range at both ends, with DATE_SATURATED (R80). -/
theorem adjustedTime_eq {day minute : Nat} {minutes moved : Int} (h : moved = (day * 1440 + minute : Nat) + minutes) :
    let held : Nat := if moved < 0 then 0 else min moved.toNat (36524 * 1440 + 1439)
    adjustedTime day minute minutes
      = (held / 1440, held % 1440, decide (moved < 0 ∨ ((36524 * 1440 + 1439 : Nat) : Int) < moved)) := by
  have hheld : min lastMinuteCount moved.toNat = if moved < 0 then 0 else min moved.toNat (36524 * 1440 + 1439) := by
    split
    · next hneg => rw [Int.toNat_of_nonpos hneg.le, Nat.min_zero]
    · exact Nat.min_comm ..
  intro held
  simp only [adjustedTime, ← h, hheld]
  rfl

/-- Settles O40: the requests by their answers in order, and the turn by the request it serves. -/
theorem clockRequestsAreChecked : Obligations.ClockRequestsAreChecked := by
  constructor
  · intro s day minute minutes pending
    refine ⟨fun hs => ?_, fun hs => ?_⟩
    · have hanswer : exec (.clockSet day minute) s
          = .next (answered s (s.answerClockSet day.toNat minute.toNat).state 0x84
              (byte (s.answerClockSet day.toNat minute.toNat).status.code :: (s.answerClockSet day.toNat minute.toNat).fields)) :=
        finish_served (r := .clockSet day minute) rfl hs rfl rfl
      refine ⟨fun hbusy => ?_, fun hfree hrange => ?_, fun hfree hday hminute => ?_⟩
      · rw [hanswer, State.answerClockSet_busy hbusy]
        rfl
      · rw [hanswer, State.answerClockSet_range hfree hrange]
        rfl
      · rw [hanswer, State.answerClockSet_accepted hfree hday hminute]
        rfl
    · have hanswer : exec (.clockAdjust minutes) s
          = .next (answered s (s.answerClockAdjust minutes.toInt).state 0x85
              (byte (s.answerClockAdjust minutes.toInt).status.code :: (s.answerClockAdjust minutes.toInt).fields)) := by
        rw [← signedOf_eq_toInt]
        exact finish_served (r := .clockAdjust minutes) rfl hs rfl rfl
      refine ⟨fun hbusy => ?_, fun hfree hrange => ?_, fun hfree hlow hhigh hset => ?_, fun hfree hlow hhigh hset => ?_⟩
      · rw [hanswer, State.answerClockAdjust_busy hbusy]
        rfl
      · rw [hanswer, State.answerClockAdjust_range hfree hrange]
        rfl
      · rw [hanswer, State.answerClockAdjust_of_range hfree hlow hhigh, hset]
        rfl
      · rw [hanswer, State.answerClockAdjust_of_range hfree hlow hhigh, hset]
        rfl
  · intro s rest hlife hidle hreq ht popped base
    have hturn : exec .journalTurn s = .next (settle s (s.withRequests rest).serveClock) := by
      obtain ⟨hgiven, -⟩ := State.turn_of_head hlife hidle hreq
      rw [exec_journalTurn, hgiven ht, State.popRequest_eq hreq]
      rfl
    have hbase : { (s.withRequests rest).recordBase .clockSet 15 with card := s.clock.day, item := s.clock.minute } = base := by
      rw [State.recordBase_eq]
      rfl
    refine ⟨fun day minute hq => ?_, fun minutes hq => ⟨fun hset => ?_, fun hset moved hmoved => ?_⟩⟩
    · rw [hturn, State.serveClock_set (s := s.withRequests rest) hq, ← hbase]
      rfl
    · rw [hturn, State.serveClock_abandoned (s := s.withRequests rest) hq hset]
      rfl
    · rw [hturn, State.serveClock_adjust (s := s.withRequests rest) hq hset,
        State.clockTurn_adjust (s := s.withRequests rest) (adjustedTime_eq hmoved), ← hbase]
      rfl

end Sys2Proof.Machine
end

section
/-! SUPPORT. Starting again and a power loss (R81, R122, R143, R145, R182, R184, R192): what each start resets and keeps, and the notice that may
begin with it, which reaches nothing else. -/

namespace Sys2Proof.Machine

/-! ### What a start resets and keeps -/

/-- Every block of `t` is as its reset leaves it, the link with the access level and rate that `s` gives it (R23, R47, R48, R125, R145, R171,
R172, R178). -/
def BlocksReset (s t : State) : Prop :=
  t.loans = [] ∧ (∀ i : Station, t.sessions[i] = Session.afterReset) ∧ (∀ i : Station, t.channels[i] = Channel.afterReset)
    ∧ t.slips = SlipUnit.afterReset ∧ t.lastGranted = 3 ∧ t.engine.phase = .free ∧ t.engine.decision = none
    ∧ t.tables.commit = Commit.idle ∧ t.tables.patch = none ∧ t.journal.requests = [] ∧ t.journal.writer = .idle
    ∧ t.link.errors = 0 ∧ t.link.responses = 0 ∧ t.link.sending = none ∧ t.link.rate = s.config.linkRate ∧ t.link.shut = false
    ∧ t.link.access = (if s.link.code2 = 0xFFFFFFFF then 2 else if s.link.code1 = 0xFFFFFFFF then 1 else 0)

/-- The nonvolatile state of `s` is kept in `t`, but for the slots (R195). -/
def NonvolatileKept (s t : State) : Prop :=
  t.config = s.config ∧ t.journal.released = s.journal.released ∧ t.journal.eraseMarker = s.journal.eraseMarker
    ∧ t.tables.bankA = s.tables.bankA ∧ t.tables.bankB = s.tables.bankB ∧ t.tables.live = s.tables.live
    ∧ t.tables.basis = s.tables.basis ∧ t.tables.valid = s.tables.valid
    ∧ t.link.code1 = s.link.code1 ∧ t.link.code2 = s.link.code2

/-- What a reset keeps and a power-on does not (R81, R122, R153, R191). -/
def KeptByReset (s t : State) : Prop :=
  t.clock = { s.clock with request := none } ∧ t.latched = s.latched ∧ t.engine.unrecorded = s.engine.unrecorded
    ∧ t.tables.protection = s.tables.protection

/-- `t` is what a reset other than power-on makes of `s`, but for the slots and the start (R192). -/
def ResetFrom (s t : State) : Prop := BlocksReset s t ∧ NonvolatileKept s t ∧ KeptByReset s t

/-- `t` stands at the beginning of start-up, for a cause (R192, R193). -/
def Starts (s t : State) (cause : Cause) : Prop :=
  t.life = .on ∧ t.phase = .recovery ∧ t.heldCause = some cause ∧ t.startCause = cause ∧ t.levels = s.pins

section
variable (s : State)

theorem State.resetBlocks_blocksReset : BlocksReset s s.resetBlocks := by
  refine ⟨rfl, fun i => ?_, fun i => ?_, rfl, rfl, rfl, rfl, rfl, rfl, rfl, rfl, rfl, rfl, rfl, rfl, rfl, rfl⟩
  · simp [State.resetBlocks]
  · simp [State.resetBlocks]

theorem State.resetBlocks_nonvolatileKept : NonvolatileKept s s.resetBlocks := ⟨rfl, rfl, rfl, rfl, rfl, rfl, rfl, rfl, rfl, rfl⟩

theorem State.resetBlocks_keptByReset : KeptByReset s s.resetBlocks := ⟨rfl, rfl, rfl, rfl⟩

theorem State.resetBlocks_resetFrom : ResetFrom s s.resetBlocks :=
  ⟨s.resetBlocks_blocksReset, s.resetBlocks_nonvolatileKept, s.resetBlocks_keptByReset⟩

theorem State.startUp_starts (cause : Cause) : Starts s (s.startUp cause) cause := ⟨rfl, rfl, rfl, rfl, rfl⟩

end

/-! ### A notice that begins (R177) -/

/-- What a notice's joining the transmitter's order keeps, settling keeps. -/
theorem settle_keeps {P : State → Prop} (hP : ∀ t : State, P t → P { t with link := { t.link with tx := t.link.tx ++ [.notice] } })
    (s : State) {t : State} (h : P t) : P (settle s t) := by
  obtain e | e := settle_cases s t <;> rw [e]
  · exact h
  · exact hP t h

theorem Link.responses_notice (l : Link) : ({ l with tx := l.tx ++ [.notice] } : Link).responses = l.responses := by
  simp [Link.responses, List.filter_append]

theorem BlocksReset.settled {s t : State} (h : BlocksReset s t) (s₀ : State) : BlocksReset s (settle s₀ t) := by
  refine settle_keeps (P := BlocksReset s) (fun u hu => ?_) s₀ h
  simpa only [BlocksReset, Link.responses_notice] using hu

theorem NonvolatileKept.settled {s t : State} (h : NonvolatileKept s t) (s₀ : State) : NonvolatileKept s (settle s₀ t) :=
  settle_keeps (P := NonvolatileKept s) (fun _ hu => hu) s₀ h

theorem KeptByReset.settled {s t : State} (h : KeptByReset s t) (s₀ : State) : KeptByReset s (settle s₀ t) :=
  settle_keeps (P := KeptByReset s) (fun _ hu => hu) s₀ h

theorem ResetFrom.settled {s t : State} (h : ResetFrom s t) (s₀ : State) : ResetFrom s (settle s₀ t) := by
  obtain ⟨hblocks, hnonvolatile, hkept⟩ := h
  exact ⟨hblocks.settled s₀, hnonvolatile.settled s₀, hkept.settled s₀⟩

theorem Starts.settled {s t : State} {cause : Cause} (h : Starts s t cause) (s₀ : State) : Starts s (settle s₀ t) cause :=
  settle_keeps (P := fun u => Starts s u cause) (fun _ hu => hu) s₀ h

/-! ### The commands -/

section
variable {s : State}

theorem exec_powerOn (h : s.life = .off) : exec .powerOn s = .next (settle s s.powerOn) := congrArg (finish s) (if_pos h)

theorem exec_resetLineAssert (h : s.life = .on ∨ s.life = .waitReset ∨ s.life = .waitRestart) :
    exec .resetLineAssert s = .next (settle s { s with resetLine := true, life := .waitReset }) := by
  refine congrArg (finish s) ?_
  obtain h | h | h := h <;> simp only [State.resetAsserted, h]

theorem exec_resetLineRelease (h : s.life = .inReset) :
    exec .resetLineRelease s = .next (settle s (State.startUp { s with resetLine := false } .resetLine)) :=
  congrArg (finish s) (if_pos h)

theorem exec_resetEntered (s : State) : exec .resetEntered s = .next (settle s s.enterReset) := rfl

theorem exec_powerLoss (s : State) (cut : SlotCut) (stored : Bool) :
    exec (.powerLoss cut stored) s = .next (settle s (s.losePower cut stored)) := rfl

theorem exec_transmitFrameEnd (s : State) : exec .transmitFrameEnd s = .next (settle s s.frameSent) := rfl

/-! ### What waits for the nonvolatile operations (R145, R192) -/

theorem State.not_storing_iff :
    s.storing = false
      ↔ (¬∃ r owner, s.journal.writer = .writing r owner) ∧ s.journal.eraseMarker = none ∧ s.configStore = none := by
  cases hw : s.journal.writer <;> simp [State.storing, hw]

theorem soundRecord_record_isSome (n : Nat) (r : JournalRecord) :
    (soundRecord (n, .record r)).isSome = decide (1 ≤ r.sequence ∧ (r.sequence - 1) % 4096 = n) := by
  by_cases h : 1 ≤ r.sequence ∧ slotOf r.sequence = n
  · have e : soundRecord (n, .record r) = some r := if_pos h
    rw [e]
    exact (decide_eq_true h).symm
  · have e : soundRecord (n, .record r) = none := if_neg h
    rw [e]
    exact (decide_eq_false h).symm

/-- The state with another slot store. -/
def State.withSlots (s : State) (slots : List (Nat × Slot)) : State := { s with journal := { s.journal with slots := slots } }

/-- In phase 1 the slots that hold no record of their own are blank before the reset is entered (R143, R145). -/
theorem State.repaired_eq (s : State) :
    s.repaired
      = s.withSlots
          (if s.phase = .recovery then s.journal.slots.filter fun e => (soundRecord e).isSome else s.journal.slots) := by
  unfold State.repaired
  split <;> rfl

theorem State.enterReset_of_idle (hlife : s.life = .waitReset) (h : s.storing = false) :
    s.enterReset
      = if s.resetLine = true then { s.repaired.resetBlocks with life := .inReset } else s.repaired.resetBlocks.startUp .resetLine := by
  simp [State.enterReset, hlife, h]

theorem State.enterReset_of_storing (h : s.storing ≠ false) : s.enterReset = s := by
  simp [State.enterReset, h]

theorem State.restartNow_of_idle (hlife : s.life = .waitRestart) (h : s.storing = false) :
    s.restartNow = s.resetBlocks.startUp .restartRequest := by
  simp [State.restartNow, hlife, h]

/-- The state of a part whose Restart response has been sent (R182). -/
def State.restarting (s : State) : State := { s with life := .waitRestart, link := { s.link with sending := none, tx := [] } }

/-- The end of a Restart's response, with nothing nonvolatile in progress (R182, R192). -/
theorem State.frameSent_restart (hlife : s.life = .on) (h : s.storing = false) {f : Frame} {bytes : List Byte}
    (hsending : s.link.sending = some { item := .response f, bytes := bytes }) (htag : f.tag = .restart) :
    s.frameSent = s.restarting.resetBlocks.startUp .restartRequest := by
  have hrun : s.running = true := by simp [State.running, hlife]
  have hsent : s.frameSent = s.restarting.restartNow := by
    simp only [State.frameSent, hrun, hsending, State.afterFrame, htag, State.restartSent, hlife, if_true]
    rfl
  rw [hsent]
  exact State.restartNow_of_idle (s := s.restarting) rfl h

/-! ### A power loss (R143, R184) -/

theorem State.losePower_eq (h : s.life ≠ .off) (cut : SlotCut) (stored : Bool) :
    s.losePower cut stored
      = { s with
          life := .off, journal := s.journal.cut cut, configStore := none,
          config := match s.configStore with
            | some c => if stored then c else s.config
            | none => s.config } := if_neg h

/-- The record in force after a power loss is the one before it or the one that was being stored, whole (R184). -/
theorem State.losePower_config (h : s.life ≠ .off) (cut : SlotCut) (stored : Bool) :
    (s.losePower cut stored).config = s.config ∨ s.configStore = some (s.losePower cut stored).config := by
  rw [State.losePower_eq h]
  dsimp only
  split
  · next c hc =>
    cases stored with
    | true => exact .inr hc
    | false => exact .inl rfl
  · exact .inl rfl

theorem Journal.cut_keeps (j : Journal) (cut : SlotCut) :
    (j.cut cut).released = j.released ∧ (j.cut cut).eraseMarker = j.eraseMarker := by
  unfold Journal.cut
  split
  · cases cut <;> exact ⟨rfl, rfl⟩
  · exact ⟨rfl, rfl⟩

/-- Only the head slot can change (R143). -/
theorem Journal.findSlot_cut (j : Journal) (cut : SlotCut) {n : Nat} (h : n ≠ j.headSlot) :
    findSlot (j.cut cut).slots n = findSlot j.slots n := by
  obtain e | ⟨v, e⟩ := j.cut_slots cut <;> rw [e]
  exact findSlot_putSlot_of_ne v j.slots h

theorem Journal.cut_slots_of_not_writing {j : Journal} (h : ∀ r owner, j.writer ≠ .writing r owner) (cut : SlotCut) :
    (j.cut cut).slots = j.slots := by
  unfold Journal.cut
  split
  · next r owner hw => exact absurd hw (h r owner)
  · rfl

end

/-- Settles O51: each start is the reset of every block, begun at once or after what is being stored, and settled. -/
theorem startsKeepWhatTheySay : Obligations.StartsKeepWhatTheySay := by
  constructor
  · intro s writing idle blocksReset nonvolatileKept keptByReset starts sound
    have hstoring : s.storing = false ↔ idle := State.not_storing_iff
    refine ⟨fun hlife => ?_, exec_resetLineAssert, fun hlife hidle => ?_, fun _ hbusy => ?_, exec_resetLineRelease,
      fun hlife hidle f bytes hsending htag => ?_⟩
    · have hreset : BlocksReset s s.powerOn := s.resetBlocks_blocksReset
      have hkept : NonvolatileKept s s.powerOn := s.resetBlocks_nonvolatileKept
      have hstarts : Starts s s.powerOn .powerOn := State.startUp_starts ..
      refine ⟨_, exec_powerOn hlife, hstarts.settled s, hreset.settled s, hkept.settled s, ?_, ?_, ?_, ?_, ?_⟩
      · rw [settle_journal]; rfl
      · rw [settle_clock]; rfl
      · rw [settle_latched]; rfl
      · rw [settle_engine]; rfl
      · rw [settle_tables]; rfl
    · have hsound : (fun e => (soundRecord e).isSome) = sound := by
        funext ⟨n, slot⟩
        cases slot with
        | record r => exact soundRecord_record_isSome n r
        | torn => rfl
      have hentered := State.enterReset_of_idle hlife (hstoring.mpr hidle)
      rw [State.repaired_eq, hsound] at hentered
      generalize hslots : (if s.phase = .recovery then s.journal.slots.filter sound else s.journal.slots) = slots at hentered ⊢
      rw [exec_resetEntered, hentered]
      refine ⟨_, rfl, ?_⟩
      cases hline : s.resetLine with
      | true =>
        rw [if_pos rfl]
        have hreset : ResetFrom s { (s.withSlots slots).resetBlocks with life := .inReset } := (s.withSlots slots).resetBlocks_resetFrom
        obtain ⟨hblocks, hnonvolatile, hkept⟩ := hreset.settled s
        refine ⟨hblocks, hnonvolatile, hkept, ?_, fun _ => ?_, nofun⟩
        · rw [settle_journal]; rfl
        · rw [settle_life]
      | false =>
        rw [if_neg nofun]
        have hreset : ResetFrom s ((s.withSlots slots).resetBlocks.startUp .resetLine) := (s.withSlots slots).resetBlocks_resetFrom
        have hstarts : Starts s ((s.withSlots slots).resetBlocks.startUp .resetLine) .resetLine := State.startUp_starts ..
        obtain ⟨hblocks, hnonvolatile, hkept⟩ := hreset.settled s
        refine ⟨hblocks, hnonvolatile, hkept, ?_, nofun, fun _ => hstarts.settled s⟩
        rw [settle_journal]; rfl
    · rw [exec_resetEntered, State.enterReset_of_storing (mt hstoring.mp hbusy), settle_self]
    · have hreset : ResetFrom s (s.restarting.resetBlocks.startUp .restartRequest) := s.restarting.resetBlocks_resetFrom
      have hstarts : Starts s (s.restarting.resetBlocks.startUp .restartRequest) .restartRequest := State.startUp_starts ..
      obtain ⟨hblocks, hnonvolatile, hkept⟩ := hreset.settled s
      rw [exec_transmitFrameEnd, State.frameSent_restart hlife (hstoring.mpr hidle) hsending htag]
      refine ⟨_, rfl, hstarts.settled s, hblocks, hnonvolatile, hkept, ?_⟩
      rw [settle_journal]; rfl
  · intro s cut stored hlife
    obtain ⟨hreleased, hmarker⟩ := s.journal.cut_keeps cut
    have hcodes : (settle s (s.losePower cut stored)).link.code1 = s.link.code1
        ∧ (settle s (s.losePower cut stored)).link.code2 = s.link.code2 := by
      refine settle_keeps (P := fun u => u.link.code1 = s.link.code1 ∧ u.link.code2 = s.link.code2) (fun _ hu => hu) s ?_
      rw [State.losePower_eq hlife]
      exact ⟨rfl, rfl⟩
    obtain ⟨hcode1, hcode2⟩ := hcodes
    have hconfig := State.losePower_config hlife cut stored
    refine ⟨_, exec_powerLoss s cut stored, ?_, ?_, ?_, ?_, hcode1, hcode2, ?_, fun n hn => ?_, fun hw => ?_⟩
    · rw [settle_life, State.losePower_eq hlife]
    · rw [settle_tables, State.losePower_eq hlife]
    · rw [settle_journal, State.losePower_eq hlife]
      exact hreleased
    · rw [settle_journal, State.losePower_eq hlife]
      exact hmarker
    · rwa [settle_config]
    · rw [settle_journal, State.losePower_eq hlife]
      exact s.journal.findSlot_cut cut hn
    · rw [settle_journal, State.losePower_eq hlife]
      exact Journal.cut_slots_of_not_writing hw cut

end Sys2Proof.Machine
end

section
/-! SUPPORT. What a request row leaves when it is served (R175, R176), and Set Protection, Set Codes and Restart by their answers (R122, R179, R182). -/

namespace Sys2Proof.Machine

/-- A request row served at its level leaves what its answer says, with a response that brings nothing more (R175, R176). -/
theorem exec_served {c : Instr} {s : State} {level : Nat} {a : Answer} (r : Request) (hc : exec c s = finish s (s.takeRequest r))
    (hl : requestLevel r.typeCode = some level) (hs : s.serves level = true) (hf : s.fits r = true) (ha : s.serve r = a)
    (ht : a.tag (.request r) = .plain) :
    exec c s = .next (answered s a.state (r.typeCode + 0x80) (byte a.status.code :: a.fields)) := by
  subst ha
  rw [hc, finish_served hl hs hf ht]

/-! ### Set Protection (R122) -/

theorem State.protectionOpen_iff (s : State) :
    s.protectionOpen = true
      ↔ s.tables.protection.lock = .opened ∨ s.tables.protection.lock = .lineGuarded ∧ s.levels.maintenance = true := by
  cases h : s.tables.protection.lock <;> simp [State.protectionOpen, h]

theorem LockMode.ofCode_of_above {n : Nat} (h : 3 < n) : LockMode.ofCode n = none := by
  obtain ⟨k, rfl⟩ := Nat.exists_eq_add_of_lt h
  rw [Nat.add_right_comm, Nat.add_comm]
  rfl

section
variable {patchMask loadMask : Byte} {low high complement lock : Nat}

/-- Bounds out of order, one bound of 0 alone, or no lock mode is RANGE (R122). -/
theorem protectionOf_none (h : high < low ∨ ¬(low = 0 ↔ high = 0) ∨ 3 < lock) :
    protectionOf patchMask loadMask low high complement lock = none := by
  unfold protectionOf
  split
  · next m hm =>
    refine if_neg fun ⟨hbounds, hzero⟩ => ?_
    obtain h | h | h := h
    · omega
    · exact h hzero
    · rw [LockMode.ofCode_of_above h] at hm
      cases hm
  · rfl

theorem protectionOf_some {m : LockMode} (hm : LockMode.ofCode lock = some m) (hbounds : low ≤ high) (hzero : low = 0 ↔ high = 0) :
    protectionOf patchMask loadMask low high complement lock
      = some { patchMask := patchMask &&& 0x1F, loadMask := loadMask, low := low, high := high, complement := complement == 1,
               lock := m } := by
  unfold protectionOf
  rw [hm]
  exact if_pos ⟨hbounds, hzero⟩

end

section
variable {s : State}

theorem State.answerSetProtection_locked (h : s.protectionOpen = false) (settings : Option Protection) :
    s.answerSetProtection settings = s.deny .protected_ := by
  simp [State.answerSetProtection, h]

theorem State.answerSetProtection_range (h : s.protectionOpen = true) : s.answerSetProtection none = s.deny .range := by
  simp [State.answerSetProtection, h]

theorem State.answerSetProtection_stored (h : s.protectionOpen = true) (p : Protection) :
    s.answerSetProtection (some p) = State.done { s with tables := { s.tables with protection := p } } := by
  simp [State.answerSetProtection, h]

end

theorem bitVec_zero_iff {w : Nat} (x y : BitVec w) : (x = 0 ↔ y = 0) ↔ (x.toNat = 0 ↔ y.toNat = 0) := by
  simp [← BitVec.toNat_inj]

theorem beq_one_toNat (b : Byte) : (b.toNat == 1) = (b == 1) := by
  rw [Bool.eq_iff_iff, beq_iff_eq, beq_iff_eq, ← BitVec.toNat_inj]
  rfl

/-- Settles O49: the stored lock mode, then the settings carried; Set Codes and Restart have one answer each. -/
theorem settingsRequestsStore : Obligations.SettingsRequestsStore := by
  intro s hs
  refine ⟨fun patchMask loadMask low high complement lock => ?_, fun level1 level2 => ?_, ?_, ?_⟩
  · intro request obeyed
    have hopen : s.protectionOpen = true ↔ obeyed := s.protectionOpen_iff
    have hserved : ∀ a : Answer,
        s.answerSetProtection (protectionOf patchMask loadMask low.toNat high.toNat complement.toNat lock.toNat) = a →
        a.tag (.request (.setProtection patchMask loadMask low high complement lock)) = .plain →
        request = .next (answered s a.state 0x95 (byte a.status.code :: a.fields)) := fun a =>
      exec_served (.setProtection patchMask loadMask low high complement lock) rfl rfl hs rfl
    refine ⟨fun hlocked => ?_, fun ho hrange => ?_, fun m ho hm hbounds hzero => ?_⟩
    · have hclosed : s.protectionOpen = false := by simpa using mt hopen.mp hlocked
      exact hserved _ (State.answerSetProtection_locked hclosed _) rfl
    · rw [bitVec_zero_iff] at hrange
      refine hserved (s.deny .range) ?_ rfl
      rw [protectionOf_none hrange, State.answerSetProtection_range (hopen.mpr ho)]
    · rw [bitVec_zero_iff] at hzero
      rw [← beq_one_toNat]
      refine hserved (State.done _) ?_ rfl
      rw [protectionOf_some hm hbounds hzero, State.answerSetProtection_stored (hopen.mpr ho)]
  · exact exec_served (.setCodes level1 level2) rfl rfl hs rfl rfl rfl
  · exact exec_served .setCodesEmpty rfl rfl hs rfl rfl rfl
  · have hrow : exec .restart s = finish s (s.takeRequest .restart) := rfl
    rw [hrow, State.takeRequest_served (level := 2) rfl hs rfl]
    rfl

end Sys2Proof.Machine
end

section
/-! SUPPORT. Tables named by their numbers (Table 6), and Read Entry (R123, R181). -/

namespace Sys2Proof.Machine

/-! ### Tables by number -/

@[simp] theorem TableId.ofNumber_index (n : TableId) : TableId.ofNumber n.index.val = some n := by cases n <;> rfl

@[simp] theorem TableId.byte_index (n : TableId) : (byte n.index.val).toNat = n.index.val := by cases n <;> rfl

/-! ### Read Entry -/

/-- The tables that are read by index (R123). -/
def TableId.readByIndex : TableId → Bool
  | .classRange | .category | .policy | .calendar | .symbolFormat => true
  | .borrower | .itemException | .staff => false

section
variable {s : State} {key : Nat}

theorem State.readIndexed_some {n : TableId} (h : key < (s.tables.liveTables.entries n).length) :
    s.readIndexed n key = { status := .ok, fields := 1 :: ((s.tables.liveTables.entries n)[key]).bytes, state := s } := by
  rw [State.readIndexed, List.getElem?_eq_getElem h]

theorem State.readIndexed_none {n : TableId} (h : (s.tables.liveTables.entries n).length ≤ key) :
    s.readIndexed n key = s.deny .range := by
  rw [State.readIndexed, List.getElem?_eq_none h]

section
variable (hfree : s.tables.commit.state ≠ .replaying) (hvalid : s.tables.valid = true)
include hfree hvalid

theorem State.answerReadLive_borrower :
    s.answerReadLive TableId.borrower.index.val key
      = s.readKeyed ((s.tables.liveTables.borrower? key).map fun b => (Entry.borrower b).bytes) := by
  simp [State.answerReadLive, hfree, hvalid]

theorem State.answerReadLive_exception :
    s.answerReadLive TableId.itemException.index.val key
      = s.readKeyed ((s.tables.liveTables.exception? key).map fun e => (Entry.exception e).bytes) := by
  simp [State.answerReadLive, hfree, hvalid]

theorem State.answerReadLive_staff :
    s.answerReadLive TableId.staff.index.val key
      = s.readKeyed ((s.tables.liveTables.staff? key).map fun e => (Entry.staff e.2).bytes ++ [byte e.1]) := by
  simp [State.answerReadLive, hfree, hvalid]

theorem State.answerReadLive_indexed {n : TableId} (hn : n.readByIndex = true) :
    s.answerReadLive n.index.val key = s.readIndexed n key := by
  simp only [State.answerReadLive, hfree, hvalid, TableId.ofNumber_index, if_false, Bool.not_true, Bool.false_eq_true]
  cases n with
  | borrower | itemException | staff => cases hn
  | classRange | category | policy | calendar | symbolFormat => rfl

end

theorem State.answerReadLoan_free (h : s.journal.writer ≠ .replaying) :
    s.answerReadLoan key = s.readKeyed ((findLoan s.loans key).map LoanEntry.bytes) := if_neg h

end

/-- Settles O46: each table by its lookup, and the Local Loan List by its own. -/
theorem readsReportEntries : Obligations.ReadsReportEntries := by
  intro s key table hs t live ok
  have hlive : ∀ (n : TableId) (a : Answer), s.answerReadLive n.index.val key.toNat = a →
      a.tag (.request (.readEntry 0 (byte n.index.val) key)) = .plain →
      live n = .next (answered s a.state 0x90 (byte a.status.code :: a.fields)) := fun n a ha =>
    have hserve : s.serve (.readEntry 0 (byte n.index.val) key) = s.answerReadLive (byte n.index.val).toNat key.toNat := rfl
    exec_served (.readEntry 0 (byte n.index.val) key) rfl rfl hs rfl (by rw [hserve, TableId.byte_index, ha])
  have hloan : ∀ a : Answer, s.answerReadLoan key.toNat = a → a.tag (.request (.readEntry 1 table key)) = .plain →
      exec (.readEntryLocalLoanList table key) s = .next (answered s a.state 0x90 (byte a.status.code :: a.fields)) := fun a =>
    exec_served (.readEntry 1 table key) rfl rfl hs rfl
  have hindexed : ∀ n ∈ [TableId.classRange, .category, .policy, .calendar, .symbolFormat], n.readByIndex = true := by decide
  refine ⟨fun hfree hvalid => ⟨fun b hb => ?_, fun hb => ?_, fun e he => ?_, fun he => ?_, fun index e he => ?_, fun he => ?_,
    fun n hn => ⟨fun hk => ?_, fun hk => ?_⟩⟩, fun hfree => ⟨fun e he => ?_, fun he => ?_⟩⟩
  · exact hlive .borrower (s.readKeyed (some _)) (by rw [State.answerReadLive_borrower hfree hvalid, hb]; rfl) rfl
  · exact hlive .borrower (s.readKeyed none) (by rw [State.answerReadLive_borrower hfree hvalid, hb]; rfl) rfl
  · exact hlive .itemException (s.readKeyed (some _)) (by rw [State.answerReadLive_exception hfree hvalid, he]; rfl) rfl
  · exact hlive .itemException (s.readKeyed none) (by rw [State.answerReadLive_exception hfree hvalid, he]; rfl) rfl
  · exact hlive .staff (s.readKeyed (some _)) (by rw [State.answerReadLive_staff hfree hvalid, he]; rfl) rfl
  · exact hlive .staff (s.readKeyed none) (by rw [State.answerReadLive_staff hfree hvalid, he]; rfl) rfl
  · exact hlive n _ ((State.answerReadLive_indexed hfree hvalid (hindexed n hn)).trans (State.readIndexed_some hk)) rfl
  · exact hlive n _ ((State.answerReadLive_indexed hfree hvalid (hindexed n hn)).trans (State.readIndexed_none hk)) rfl
  · exact hloan (s.readKeyed (some _)) (by rw [State.answerReadLoan_free hfree, he]; rfl) rfl
  · exact hloan (s.readKeyed none) (by rw [State.answerReadLoan_free hfree, he]; rfl) rfl

end Sys2Proof.Machine
end

section
/-! SUPPORT. Loading a table (R104 to R108): the four requests where they are accepted, and each entry of a Load Entries frame by the checks of R106. -/

namespace Sys2Proof.Machine

/-! ### The requests -/

section
variable {s : State} {n : TableId}

/-- The Table Store with other standby content (R103). -/
def TableStore.withStandby (t : TableStore) (content : TableSet) : TableStore :=
  t.setBank t.live.other { t.standbyBank with tables := content }

section
variable (hfree : s.tables.committing = false) (hcopy : (s.tables.standbyOf n).state ≠ .copying)
include hfree hcopy

theorem State.answerBeginTable_accepted {count : Nat} (hmask : s.tables.protection.loadMask.getLsbD n.index.val = false)
    (hfilling : s.tables.filling = false) (hcount : countAllowed n count = true) :
    s.answerBeginTable n.index.val count
      = State.done { s with
          tables := { (s.tables.withStandby (s.tables.standbyBank.tables.discard n)).setStandby n
                        { state := .loading, copyPoint := none, failure := none } with
                      load := some { table := n, count := count, pointer := 0, crc := crcInit, previousKey := none } } } := by
  simp only [State.answerBeginTable, TableId.ofNumber_index, hfree, hcopy, hmask, hfilling, hcount, Bool.false_eq_true, if_false,
    Bool.not_true]
  rfl

theorem State.answerLoadEntries_loading {c : LoadContext} (hc : s.tables.loading n = some c) {count : Nat} {entries : List Byte}
    {r : LoadContext × TableSet × Option Status} (hr : loadEntries count c s.tables.standbyBank.tables entries = r) :
    s.answerLoadEntries n.index.val count entries
      = match r.2.2 with
        | none =>
          { status := .ok, fields := beBytes 2 r.1.pointer,
            state := { s with tables := { s.tables.withStandby r.2.1 with load := some r.1 } } }
        | some st =>
          { status := st, fields := beBytes 2 r.1.pointer,
            state := { s with tables := (s.tables.withStandby r.2.1).failLoad n st } } := by
  simp only [State.answerLoadEntries, TableId.ofNumber_index, hfree, beq_eq_false_iff_ne.mpr hcopy, hc, hr, Bool.false_or,
    Bool.false_eq_true, if_false]
  rfl

theorem State.answerEndTable_complete {c : LoadContext} (hc : s.tables.loading n = some c) (hpointer : c.pointer = c.count) :
    s.answerEndTable n.index.val c.crc
      = State.done { s with
          tables := { (s.tables.setBank s.tables.live.other
                        { s.tables.standbyBank with crcs := s.tables.standbyBank.crcs.set n.index c.crc }).setStandby n
                        { state := .complete, copyPoint := none, failure := none } with load := none } } := by
  simp only [State.answerEndTable, TableId.ofNumber_index, hfree, beq_eq_false_iff_ne.mpr hcopy, hc, hpointer, Bool.false_or,
    Bool.false_eq_true, if_false, ne_eq, not_true_eq_false, or_self]

theorem State.answerAbortLoad_accepted :
    s.answerAbortLoad n.index.val
      = State.done { s with
          tables := { (s.tables.withStandby (s.tables.standbyBank.tables.discard n)).setStandby n Standby.empty with
                      load := if (s.tables.loading n).isSome then none else s.tables.load } } := by
  simp only [State.answerAbortLoad, TableId.ofNumber_index, hfree, beq_eq_false_iff_ne.mpr hcopy, Bool.false_or, Bool.false_eq_true,
    if_false]
  rfl

end

end

/-! ### One entry (R106) -/

section
variable {c : LoadContext} {bytes : List Byte}

theorem checkEntry_of_count (h : c.count ≤ c.pointer) : checkEntry c bytes = .error .range := if_pos h

theorem checkEntry_of_fields (h : c.pointer < c.count) (hd : decodeEntry c.table (c.pointer == 0) bytes = none) :
    checkEntry c bytes = .error .range := by
  simp only [checkEntry, h.not_ge, if_false, hd]

theorem checkEntry_of_key (h : c.pointer < c.count) {e : Entry} (hd : decodeEntry c.table (c.pointer == 0) bytes = some e)
    {key previous : Nat} (hk : e.key = some key) (hp : c.previousKey = some previous) (hle : key ≤ previous) :
    checkEntry c bytes = .error .order := by
  simp only [checkEntry, h.not_ge, if_false, hd, hk, hp, hle, if_true]

theorem checkEntry_passes (h : c.pointer < c.count) {e : Entry} (hd : decodeEntry c.table (c.pointer == 0) bytes = some e)
    (horder : ∀ key previous, e.key = some key → c.previousKey = some previous → previous < key) :
    checkEntry c bytes = .ok e := by
  simp only [checkEntry, h.not_ge, if_false, hd]
  split
  · next key previous hk hp => exact if_neg (horder key previous hk hp).not_ge
  · rfl

theorem LoadContext.next_eq (c : LoadContext) (e : Entry) :
    c.next e
      = { c with
          pointer := c.pointer + 1, crc := crcOver c.crc e.bytes, previousKey := if e.key.isSome then e.key else c.previousKey } := by
  unfold LoadContext.next
  cases e.key <;> rfl

theorem loadEntries_of_error (k : Nat) (t : TableSet) {st : Status}
    (h : checkEntry c (bytes.take (entrySize c.table (c.pointer == 0))) = .error st) :
    loadEntries (k + 1) c t bytes = (c, t, some st) := by
  simp only [loadEntries, h]

theorem loadEntries_of_ok (k : Nat) (t : TableSet) {e : Entry}
    (h : checkEntry c (bytes.take (entrySize c.table (c.pointer == 0))) = .ok e) :
    loadEntries (k + 1) c t bytes = loadEntries k (c.next e) (t.append e) (bytes.drop (entrySize c.table (c.pointer == 0))) := by
  simp only [loadEntries, h]

end

/-- Settles O43: the four requests by their answers, and the entries of a frame by the checks in order. -/
theorem tableLoads : Obligations.TableLoads := by
  constructor
  · intro s n hs hfree hcopy named store
    have hnamed : named.toNat = n.index.val := TableId.byte_index n
    refine ⟨fun count hmask hfilling hcount => ?_, fun c count entries hc hfits => ?_, fun c crc hc hpointer hcrc => ?_, ?_⟩
    · have hserve : s.serve (.beginTable named count) = s.answerBeginTable named.toNat count.toNat := rfl
      rw [hnamed, State.answerBeginTable_accepted hfree hcopy hmask hfilling hcount] at hserve
      exact exec_served (.beginTable named count) rfl rfl hs rfl hserve rfl
    · intro r hcount
      have hbyte : (byte count).toNat = count := by simpa [byte] using hcount
      have hfit : s.fits (.loadEntries named (byte count) entries) = true := by
        rwa [← hnamed, ← hbyte] at hfits
      have hserve : s.serve (.loadEntries named (byte count) entries) = s.answerLoadEntries named.toNat (byte count).toNat entries := rfl
      rw [hnamed, hbyte, State.answerLoadEntries_loading hfree hcopy hc (r := r) rfl] at hserve
      refine ⟨fun hr => ?_, fun failure hr => ?_⟩
      · rw [hr] at hserve
        exact exec_served (.loadEntries named (byte count) entries) rfl rfl hs hfit hserve rfl
      · rw [hr] at hserve
        exact exec_served (.loadEntries named (byte count) entries) rfl rfl hs hfit hserve rfl
    · have hserve : s.serve (.endTable named crc) = s.answerEndTable named.toNat crc.toNat := rfl
      rw [hnamed, hcrc, State.answerEndTable_complete hfree hcopy hc hpointer] at hserve
      exact exec_served (.endTable named crc) rfl rfl hs rfl hserve rfl
    · have hserve : s.serve (.abortLoad named) = s.answerAbortLoad named.toNat := rfl
      rw [hnamed, State.answerAbortLoad_accepted hfree hcopy] at hserve
      exact exec_served (.abortLoad named) rfl rfl hs rfl hserve rfl
  · intro k c t bytes size entry
    refine ⟨fun hcount => ?_, fun hcount hentry => ?_, fun e hcount hentry =>
      ⟨fun key previous hkey hprevious hle => ?_, fun horder => ?_⟩⟩
    · exact loadEntries_of_error k t (checkEntry_of_count hcount)
    · exact loadEntries_of_error k t (checkEntry_of_fields hcount hentry)
    · exact loadEntries_of_error k t (checkEntry_of_key hcount hentry hkey hprevious hle)
    · rw [loadEntries_of_ok k t (checkEntry_passes hcount hentry horder), LoadContext.next_eq]

end Sys2Proof.Machine
end

section
/-! SUPPORT. Copy Table and Commit Set where they are accepted (R109, R111), the end of a copy (R110), and the end of a validation by the first
table that fails it (R112 to R114). -/

namespace Sys2Proof.Machine

/-! ### The standby states -/

section
variable {t : TableStore}

theorem TableStore.standbyOf_mem (t : TableStore) (n : TableId) : t.standbyOf n ∈ t.standby.toList :=
  Vector.mem_toList_iff.mpr (Vector.getElem_mem _)

theorem TableId.index_all : ∀ i : Fin 8, (TableId.all[i.val]'i.isLt).index = i := by decide

/-- Every standby state is that of one of the eight tables (R104). -/
theorem TableStore.forall_standby {P : Standby → Prop} (h : ∀ n, P (t.standbyOf n)) : ∀ b ∈ t.standby.toList, P b := by
  intro b hb
  obtain ⟨i, hi, rfl⟩ := Vector.getElem_of_mem (Vector.mem_toList_iff.mp hb)
  have hn := h (TableId.all[i]'hi)
  simp only [TableStore.standbyOf, TableId.index_all ⟨i, hi⟩] at hn
  exact hn

theorem TableStore.not_copying_of_filling (h : t.filling = false) (n : TableId) : (t.standbyOf n).state ≠ .copying := by
  intro hcopy
  have hnone := List.any_eq_false.mp h _ (t.standbyOf_mem n)
  simp [hcopy] at hnone

/-- A COMPLETE standby set (R111). -/
theorem TableStore.all_complete (h : ∀ n, (t.standbyOf n).state = .complete) :
    (t.standby.toList.any fun b => b.state == .copying) = false ∧ (t.standby.toList.all fun b => b.state == .complete) = true := by
  have hall := t.forall_standby (P := fun b => b.state = .complete) h
  refine ⟨List.any_eq_false.mpr fun b hb => ?_, List.all_eq_true.mpr fun b hb => ?_⟩
  · simp [hall b hb]
  · simp [hall b hb]

end

/-! ### The requests (R109, R111) -/

section
variable {s : State} (hfree : s.tables.committing = false) (hpatch : s.tables.patch = none)
include hfree hpatch

theorem State.answerCopyTable_accepted (hvalid : s.tables.valid = true) (hfilling : s.tables.filling = false) (n : TableId) :
    s.answerCopyTable n.index.val
      = { status := .ok, fields := beBytes 4 s.journal.lastComplete,
          state := { s with
            tables := { (s.tables.withStandby (s.tables.standbyBank.tables.discard n)).setStandby n
                          { state := .copying, copyPoint := some s.journal.lastComplete, failure := none } with
                        copy := some { table := n, source := (s.tables.bank s.tables.live).tables,
                                       crc := (s.tables.bank s.tables.live).crcs[n.index] } } } } := by
  have hcopy := beq_eq_false_iff_ne.mpr (TableStore.not_copying_of_filling hfilling n)
  simp only [State.answerCopyTable, TableId.ofNumber_index, hfree, hcopy, hpatch, hvalid, hfilling, Option.isSome_none, Bool.or_false,
    Bool.not_true, Bool.false_eq_true, if_false]
  rfl

theorem State.answerCommitSet_accepted {basis : Nat} (hcomplete : ∀ n, (s.tables.standbyOf n).state = .complete)
    (hstale : s.tables.basis ≤ basis) (hfuture : basis ≤ s.journal.lastComplete) (hcopied : s.tables.copiedBelow basis = false) :
    s.answerCommitSet basis
      = State.done { s with
          tables := { s.tables with commit := { state := .validating, basis := basis, validated := false, failure := none } } } := by
  obtain ⟨hnocopy, hall⟩ := TableStore.all_complete hcomplete
  simp only [State.answerCommitSet, hfree, hnocopy, hpatch, hall, hstale.not_gt, hfuture.not_gt, hcopied, Option.isSome_none,
    Bool.or_false, Bool.not_true, Bool.false_eq_true, if_false]

end

theorem TableStore.copiedBelow_false {t : TableStore} {basis : Nat}
    (h : ∀ n ∈ [TableId.borrower, .itemException], ∀ p, (t.standbyOf n).copyPoint = some p → basis ≤ p) :
    t.copiedBelow basis = false := by
  refine List.any_eq_false.mpr fun n hn => ?_
  cases hp : (t.standbyOf n).copyPoint with
  | none => simp
  | some p => simpa using h n hn p hp

/-! ### The ends of a copy and of a validation (R110, R112 to R114) -/

/-- The tables before one in the order of their numbers (Table 6). -/
theorem TableId.all_split (n : TableId) :
    ∃ before after, TableId.all = before ++ n :: after ∧ ∀ m ∈ before, m.index < n.index := by
  refine ⟨TableId.all.take n.index.val, TableId.all.drop (n.index.val + 1), ?_, ?_⟩
  · cases n <;> rfl
  · cases n <;> decide

section
variable {s : State}

theorem exec_copyEnd {c : CopyContext} (hrun : s.running = true) (hc : s.tables.copy = some c) :
    exec .copyEnd s = .next (settle s { s with tables := s.tables.endCopy c }) := by
  have hrow : exec .copyEnd s = finish s
      (match s.running, s.tables.copy with
        | true, some c => { s with tables := s.tables.endCopy c }
        | _, _ => s) := rfl
  rw [hrow, hrun, hc]
  rfl

theorem exec_validationEnd (hrun : s.running = true) (hstate : s.tables.commit.state = .validating)
    (hopen : s.tables.commit.validated = false) : exec .validationEnd s = .next (settle s s.endValidation) :=
  congrArg (finish s) (if_pos (by simp [hrun, hstate, hopen]))

/-- The table that fails first is the one reported (R112). -/
theorem TableStore.firstFailure_some {t : TableStore} {n : TableId} {failure : Status}
    (hn : validateTable t.standbyBank.tables t.standbyBank.crcs[n.index] n = some failure)
    (hbefore : ∀ m : TableId, m.index < n.index → validateTable t.standbyBank.tables t.standbyBank.crcs[m.index] m = none) :
    t.firstFailure = some (n, failure) := by
  obtain ⟨before, after, hall, hlt⟩ := n.all_split
  refine List.findSome?_eq_some_iff.mpr ⟨before, n, after, hall, ?_, fun m hm => ?_⟩
  · rw [hn]; rfl
  · rw [hbefore m (hlt m hm)]; rfl

theorem TableStore.firstFailure_none {t : TableStore}
    (h : ∀ n : TableId, validateTable t.standbyBank.tables t.standbyBank.crcs[n.index] n = none) : t.firstFailure = none := by
  refine List.findSome?_eq_none_iff.mpr fun n _ => ?_
  rw [h n]; rfl

theorem State.endValidation_failed {n : TableId} {failure : Status} (h : s.tables.firstFailure = some (n, failure)) :
    s.endValidation = State.latch { s with tables := s.tables.failCommit n failure } .commitFailed := by
  simp only [State.endValidation, h]

theorem State.endValidation_passed (h : s.tables.firstFailure = none) :
    s.endValidation = State.ask { s with tables := { s.tables with commit := { s.tables.commit with validated := true } } } .commit := by
  simp only [State.endValidation, h]

end

/-- Settles O44: the two requests by their answers, and the two ends by what is copied and by the first failing table. -/
theorem copiesAndCommits : Obligations.CopiesAndCommits := by
  intro s
  refine ⟨fun n hs hfree hpatch hvalid hfilling => ?_, fun c hrun hc => exec_copyEnd hrun hc,
    fun basis hs hfree hpatch hcomplete hstale hfuture hcopied => ?_, fun hrun hstate hopen => ⟨fun n failure hn hbefore => ?_, fun h => ?_⟩⟩
  · have hserve : s.serve (.copyTable (byte n.index.val)) = s.answerCopyTable (byte n.index.val).toNat := rfl
    rw [TableId.byte_index, State.answerCopyTable_accepted hfree hpatch hvalid hfilling] at hserve
    exact exec_served (.copyTable (byte n.index.val)) rfl rfl hs rfl hserve rfl
  · have hanswer := State.answerCommitSet_accepted hfree hpatch hcomplete hstale hfuture (TableStore.copiedBelow_false hcopied)
    exact exec_served (.commitSet basis) rfl rfl hs rfl hanswer rfl
  · rw [exec_validationEnd hrun hstate hopen, State.endValidation_failed (TableStore.firstFailure_some hn hbefore)]
    rfl
  · rw [exec_validationEnd hrun hstate hopen, State.endValidation_passed (TableStore.firstFailure_none h)]
    rfl

end Sys2Proof.Machine
end

section
/-! SUPPORT. The end of a replay (R115, R126, R141, R146): the list and the live tables it leaves, for start-up and for a commit. -/

namespace Sys2Proof.Machine

section
variable {s : State}

/-- The Table Store as a replay leaves it (R126, R138, R141). -/
def State.replayedTables (s : State) : TableStore :=
  if s.tables.valid then s.tables.rewriteLive (replayTables (s.journal.recordsAbove s.tables.basis)) else s.tables

theorem State.replayed_eq (s : State) :
    s.replayed
      = { s with
          loans := replayLoans (s.journal.recordsAbove s.tables.basis) [], tables := s.replayedTables,
          journal := { s.journal with writer := .idle } } := rfl

/-- Start-up's replay asks for the RESTART record and enables the stations (R146, R193). -/
theorem State.endReplay_start (hlife : s.life = .on) (hw : s.journal.writer = .replaying) (hphase : s.phase = .replay)
    (hcommit : s.replayedTables.commit.state = .idle) : s.endReplay = State.ask { s.replayed with phase := .started } .restart := by
  have hidle : s.replayed.tables.commit.state ≠ .replaying := by
    rw [State.replayed_eq, hcommit]
    decide
  simp [State.endReplay, hlife, hw, hphase, hidle]

/-- A commit's replay is DONE (R115). -/
theorem State.endReplay_commit (hlife : s.life = .on) (hw : s.journal.writer = .replaying) (hphase : s.phase = .started)
    (hcommit : s.replayedTables.commit.state = .replaying) :
    s.endReplay
      = { s.replayed with tables := { s.replayedTables with commit := { s.replayedTables.commit with state := .done } } } := by
  have hreplaying : s.replayed.tables.commit.state = .replaying := by rw [State.replayed_eq, hcommit]
  simp only [State.endReplay, hlife, hw, hphase, hreplaying, beq_self_eq_true, Bool.and_self, if_true, reduceCtorEq, if_false]
  rfl

theorem exec_replayEnd (s : State) : exec .replayEnd s = .next (settle s s.endReplay) := rfl

end

/-- Settles O26: the two ends of a replay, by what the part replays for. -/
theorem replayRebuildsList : Obligations.ReplayRebuildsList := by
  intro s hlife hw above list tables
  refine ⟨fun hphase hcommit => ?_, fun hphase hcommit => ?_⟩
  · rw [exec_replayEnd, State.endReplay_start hlife hw hphase hcommit]
    rfl
  · rw [exec_replayEnd, State.endReplay_commit hlife hw hphase hcommit]
    rfl

end Sys2Proof.Machine
end

section
/-! SUPPORT. Table entries and their load layout (Table 18): each entry as the fields of its layout, and every field read back from it
(R185, R186); and the record that carries a patch (R119, Table 16). -/

namespace Sys2Proof.Machine

open Config

/-! ### Reading a field back (R185) -/

theorem foldl_beBytes (acc n v : Nat) :
    (beBytes n v).foldl (fun acc b => acc * 256 + b.toNat) acc = acc * 256 ^ n + v % 256 ^ n := by
  induction n generalizing acc with
  | zero => simp [beBytes, Nat.mod_one]
  | succ n ih =>
    have hbyte : (BitVec.ofNat 8 (v / 256 ^ n)).toNat = v / 256 ^ n % 256 := by simp
    rw [beBytes, List.foldl_cons, ih, hbyte, Nat.pow_succ, Nat.mod_mul]
    ring

theorem beNat_beBytes {n v : Nat} (h : v < 256 ^ n) : beNat (beBytes n v) = v := by
  rw [beNat, foldl_beBytes, Nat.zero_mul, Nat.zero_add, Nat.mod_eq_of_lt h]

/-- Every field's value fits its width. -/
def FieldsFit (fields : List (Nat × Nat)) : Prop := ∀ f ∈ fields, f.2 < 256 ^ f.1

theorem fieldsFit_nil : FieldsFit [] := List.forall_mem_nil _

theorem fieldsFit_cons (width value : Nat) (rest : List (Nat × Nat)) :
    FieldsFit ((width, value) :: rest) ↔ value < 256 ^ width ∧ FieldsFit rest := List.forall_mem_cons

theorem fieldsFit_append (a b : List (Nat × Nat)) : FieldsFit (a ++ b) ↔ FieldsFit a ∧ FieldsFit b := List.forall_mem_append

/-- Every field reads back where it stands, from an offset on. -/
def ReadsAll (b : List Byte) : Nat → List (Nat × Nat) → Prop
  | _, [] => True
  | offset, f :: rest => beField b offset f.1 = f.2 ∧ ReadsAll b (offset + f.1) rest

theorem readsAll_of_spells {b : List Byte} {offset : Nat} {fields : List (Nat × Nat)} (h : SpellsAll b offset fields)
    (hfit : FieldsFit fields) : ReadsAll b offset fields := by
  induction fields generalizing offset with
  | nil => trivial
  | cons f rest ih =>
    obtain ⟨hf, hrest⟩ := h
    obtain ⟨hvalue, hfits⟩ := (fieldsFit_cons ..).mp hfit
    refine ⟨?_, ih hrest hfits⟩
    rw [beField, hf, beNat_beBytes hvalue]

theorem byteAt_eq_beField (b : List Byte) (i : Nat) : byteAt b i = beField b i 1 := by
  rw [byteAt, beField, List.getD, ← List.head?_drop]
  cases b.drop i with
  | nil => rfl
  | cons a rest => simp [beNat]

theorem twosOf_lt (width : Nat) (i : Int) : twosOf width i < 2 ^ width := by
  have hpos : (0 : Int) < 2 ^ width := by positivity
  have hlt := Int.emod_lt_of_pos i hpos
  have hnonneg := Int.emod_nonneg i hpos.ne'
  zify [twosOf]
  omega

/-- Two's complement reads back within its range (R185). -/
theorem signedOf_twosOf (n : Nat) {i : Int} (hlow : -2 ^ n ≤ i) (hhigh : i < 2 ^ n) : signedOf (n + 1) (twosOf (n + 1) i) = i := by
  have hpow : (2 : Int) ^ (n + 1) = 2 * 2 ^ n := by ring
  have hcast : ((2 ^ n : Nat) : Int) = 2 ^ n := by push_cast; rfl
  rw [signedOf, twosOf, hpow, Nat.add_sub_cancel]
  obtain hi | hi := lt_or_ge i 0
  · have hmod : i % (2 * 2 ^ n) = i + 2 * 2 ^ n := by
      rw [← Int.add_emod_right, Int.emod_eq_of_lt (by omega) (by omega)]
    rw [hmod, if_neg (by omega)]
    omega
  · rw [Int.emod_eq_of_lt hi (by omega), if_pos (by omega)]
    omega

/-! ### Codes (Table 15) -/

theorem ExceptionState.ofCode_code (st : ExceptionState) : ExceptionState.ofCode st.code = some st := by cases st <;> rfl
theorem CellKind.ofCode_code (k : CellKind) : CellKind.ofCode k.code = some k := by cases k <;> rfl
theorem SymbolKind.ofCode_code (k : SymbolKind) : SymbolKind.ofCode k.code = some k := by cases k <;> rfl
theorem CheckScheme.ofCode_code (c : CheckScheme) : CheckScheme.ofCode c.code = some c := by cases c <;> rfl

theorem ExceptionState.code_lt (st : ExceptionState) : st.code < 256 := by cases st <;> decide
theorem CellKind.code_lt (k : CellKind) : k.code < 256 := by cases k <;> decide
theorem SymbolKind.code_lt (k : SymbolKind) : k.code < 256 := by cases k <;> decide
theorem CheckScheme.code_lt (c : CheckScheme) : c.code < 256 := by cases c <;> decide

theorem BorrowerFlags.code_lt (f : BorrowerFlags) : f.code < 8 := by
  obtain ⟨admin, overdue, lost⟩ := f
  revert admin overdue lost
  decide

theorem BorrowerFlags.ofCode_code (f : BorrowerFlags) : BorrowerFlags.ofCode f.code = f := by
  obtain ⟨admin, overdue, lost⟩ := f
  revert admin overdue lost
  decide

/-! ### The fields of an entry (Table 18) -/

/-- Bytes as fields of width 1. -/
def byteFields (bs : List Byte) : List (Nat × Nat) := bs.map fun b => (1, b.toNat)

theorem layout_byteFields (bs : List Byte) : layout (byteFields bs) = bs := by
  induction bs with
  | nil => rfl
  | cons b rest ih =>
    rw [byteFields, List.map_cons, layout_cons, beBytes_one, byte_toNat]
    exact congrArg (b :: ·) ih

theorem widthOf_byteFields (bs : List Byte) : widthOf (byteFields bs) = bs.length := by
  rw [← length_layout, layout_byteFields]

/-- The open and close minutes of a Calendar header's weekday (Table 18). -/
def hourFields (h : Nat × Nat) : List (Nat × Nat) := [(2, h.1), (2, h.2)]

/-- A symbol's lead with the padding that fills its four places (Table 18). -/
def paddedLead (lead : List Byte) : List Byte := lead ++ List.replicate (4 - lead.length) 0

/-- The fields of an entry, each with its width (Table 18). -/
def Entry.fields : Entry → List (Nat × Nat)
  | .borrower e =>
    [(6, e.card), (1, e.category), (1, e.flags.code), (1, e.snapshot), (1, twosOf 8 e.limitAdjust), (2, e.fines),
      (2, twosOf 16 e.thresholdAdjust), (2, e.expiry)]
  | .exception e =>
    [(6, e.item), (1, e.state.code), (1, e.classOverride.getD 0xFF), (6, e.holdCard), (2, e.holdExpiry.getD 0xFFFF)]
  | .range e => [(6, e.low), (6, e.high), (1, e.cls)]
  | .category e => [(1, e.loanLimit), (2, e.threshold), (2, e.capDay)]
  | .policy e => [(1, e.kind.code), (2, e.period), (1, e.renewals)]
  | .header e => (1, e.mask.toNat) :: (e.hours.flatMap hourFields ++ [(2, e.horizon), (1, e.shelfDays)])
  | .closedDay d => [(2, d)]
  | .staff e => [(6, e.number), (1, e.level)]
  | .symbol e =>
    (1, e.lead.length) :: (byteFields (paddedLead e.lead)
      ++ [(1, e.minLength), (1, e.maxLength), (1, e.kind.code), (1, e.check.code), (1, e.strip)])

theorem Entry.bytes_eq (e : Entry) : e.bytes = layout e.fields := by
  cases e with
  | header e =>
    have hhours : ∀ h : Nat × Nat, layout (hourFields h) = beBytes 2 h.1 ++ beBytes 2 h.2 := fun h => by simp [hourFields]
    simp [Entry.bytes, Entry.fields, layout_flatMap, beBytes_one, byte_toNat, hhours]
  | symbol e => simp [Entry.bytes, Entry.fields, layout_byteFields, paddedLead, beBytes_one]
  | borrower | exception | range | category | policy | closedDay | staff => simp [Entry.bytes, Entry.fields, beBytes_one]

/-! ### Every entry read back -/

theorem isIdentity_iff (n : Nat) : isIdentity n = true ↔ 1 ≤ n ∧ n ≤ 99999999999999 := decide_eq_true_iff

theorem getD_lt {o : Option Nat} {d bound limit : Nat} (ho : (o.all fun n => decide (n ≤ limit)) = true) (hlimit : limit < bound)
    (hd : d < bound) : o.getD d < bound := by
  cases o with
  | none => exact hd
  | some n => exact Nat.lt_of_le_of_lt (of_decide_eq_true ho) hlimit

theorem fieldsFit_byteFields (bs : List Byte) : FieldsFit (byteFields bs) := by
  intro f hf
  obtain ⟨b, -, rfl⟩ := List.mem_map.mp hf
  exact b.isLt

theorem fieldsFit_hours {hours : List (Nat × Nat)}
    (h : (hours.all fun h => decide (h.1 ≤ 1438) && decide (1 ≤ h.2 ∧ h.2 ≤ 1439)) = true) :
    FieldsFit (hours.flatMap hourFields) := by
  intro f hf
  obtain ⟨o, ho, hf⟩ := List.mem_flatMap.mp hf
  have hrange := List.all_eq_true.mp h o ho
  simp only [Bool.and_eq_true, decide_eq_true_eq] at hrange
  have hfit : FieldsFit (hourFields o) := by
    simp only [hourFields, fieldsFit_cons, fieldsFit_nil, and_true]
    omega
  exact hfit f hf

/-- The fields of an entry in range fit their widths (R98 to R102). -/
theorem Entry.fields_fit {e : Entry} (h : e.inRange = true) : FieldsFit e.fields := by
  have hday : lastDay = 36524 := rfl
  have hidentity : maxIdentity = 99999999999999 := rfl
  cases e with
  | borrower e =>
    have hflags := e.flags.code_lt
    have hlimit := twosOf_lt 8 e.limitAdjust
    have hthreshold := twosOf_lt 16 e.thresholdAdjust
    simp only [Entry.inRange, Bool.and_eq_true, decide_eq_true_eq, isIdentity_iff] at h
    simp only [Entry.fields, fieldsFit_cons, fieldsFit_nil, and_true]
    omega
  | exception e =>
    have hstate := e.state.code_lt
    simp only [Entry.inRange, Bool.and_eq_true, decide_eq_true_eq, isIdentity_iff] at h
    obtain ⟨⟨⟨hitem, hclass⟩, hcard⟩, hexpiry⟩ := h
    have hclass' : e.classOverride.getD 0xFF < 256 := getD_lt hclass (by decide) (by decide)
    have hexpiry' : e.holdExpiry.getD 0xFFFF < 65536 := getD_lt hexpiry (by decide) (by decide)
    simp only [Entry.fields, fieldsFit_cons, fieldsFit_nil, and_true]
    omega
  | range e | category e | closedDay e | staff e =>
    simp only [Entry.inRange, Bool.and_eq_true, decide_eq_true_eq, isIdentity_iff] at h
    simp only [Entry.fields, fieldsFit_cons, fieldsFit_nil, and_true]
    omega
  | policy e =>
    have hkind := e.kind.code_lt
    simp only [Entry.inRange, Bool.and_eq_true, decide_eq_true_eq] at h
    simp only [Entry.fields, fieldsFit_cons, fieldsFit_nil, and_true]
    omega
  | header e =>
    simp only [Entry.inRange, Bool.and_eq_true, decide_eq_true_eq] at h
    obtain ⟨⟨⟨⟨hmask, -⟩, hhours⟩, hhorizon⟩, hshelf⟩ := h
    have hfit := fieldsFit_hours hhours
    simp only [Entry.fields, fieldsFit_cons, fieldsFit_append, fieldsFit_nil, and_true, hfit, true_and]
    omega
  | symbol e =>
    have hkind := e.kind.code_lt
    have hcheck := e.check.code_lt
    simp only [Entry.inRange, Bool.and_eq_true, decide_eq_true_eq] at h
    simp only [Entry.fields, fieldsFit_cons, fieldsFit_append, fieldsFit_byteFields, fieldsFit_nil, and_true, true_and]
    omega

theorem Entry.reads {e : Entry} (h : e.inRange = true) : ReadsAll e.bytes 0 e.fields := by
  rw [Entry.bytes_eq]
  exact readsAll_of_spells (spellsAll_layout _) (Entry.fields_fit h)

/-- The value that stands for an absent field is none that a present one takes (Table 18). -/
theorem present_or_absent {o : Option Nat} {d limit : Nat} (ho : (o.all fun n => decide (n ≤ limit)) = true) (hd : limit < d) :
    (if o.getD d = d then none else some (o.getD d)) = o := by
  cases o with
  | none => exact if_pos rfl
  | some n =>
    have hn : n ≠ d := Nat.ne_of_lt (Nat.lt_of_le_of_lt (of_decide_eq_true ho) hd)
    exact if_neg hn

theorem readsAll_append {b : List Byte} {offset : Nat} {p q : List (Nat × Nat)} (h : ReadsAll b offset (p ++ q)) :
    ReadsAll b offset p ∧ ReadsAll b (offset + widthOf p) q := by
  induction p generalizing offset with
  | nil => exact ⟨trivial, h⟩
  | cons f rest ih =>
    obtain ⟨hf, hrest⟩ := h
    obtain ⟨hp, hq⟩ := ih hrest
    rw [Nat.add_assoc] at hq
    exact ⟨⟨hf, hp⟩, hq⟩

/-- Of the weekdays' open and close minutes, those at place `k` stand four bytes on for each before them (Table 18). -/
theorem readsAll_hours {b : List Byte} {offset : Nat} {hours : List (Nat × Nat)} (h : ReadsAll b offset (hours.flatMap hourFields))
    {k : Nat} (hk : k < hours.length) : (beField b (offset + 4 * k) 2, beField b (offset + 2 + 4 * k) 2) = hours[k] := by
  induction hours generalizing offset k with
  | nil => cases hk
  | cons o rest ih =>
    obtain ⟨hopen, hclose, hrest⟩ := h
    cases k with
    | zero => exact Prod.ext hopen hclose
    | succ k =>
      have hplace : (beField b (offset + 2 + 2 + 4 * k) 2, beField b (offset + 2 + 2 + 2 + 4 * k) 2) = rest[k]'(Nat.lt_of_succ_lt_succ hk) :=
        ih hrest (Nat.lt_of_succ_lt_succ hk)
      have hoffset : offset + 2 + 2 + 4 * k = offset + 4 * (k + 1) := by ring
      have hoffset' : offset + 2 + 2 + 2 + 4 * k = offset + 2 + 4 * (k + 1) := by ring
      rwa [hoffset, hoffset'] at hplace

theorem decodeEntry_of_ofBytes {t : TableId} {first : Bool} {b : List Byte} {e : Entry} (h : Entry.ofBytes t first b = some e)
    (hr : e.inRange = true) : decodeEntry t first b = some e := by
  rw [decodeEntry, h, Option.filter_some, if_pos hr]

/-- A borrower's signed adjustments read back from two's complement (R98). -/
theorem adjustments_readBack {e : Borrower} (h : (Entry.borrower e).inRange = true) :
    signedOf 8 (twosOf 8 e.limitAdjust) = e.limitAdjust ∧ signedOf 16 (twosOf 16 e.thresholdAdjust) = e.thresholdAdjust := by
  simp only [Entry.inRange, Bool.and_eq_true, decide_eq_true_eq] at h
  obtain ⟨⟨⟨⟨-, hlimit⟩, -⟩, hthreshold⟩, -⟩ := h
  exact ⟨signedOf_twosOf 7 (by omega) (by omega), signedOf_twosOf 15 (by omega) (by omega)⟩

section
variable {first : Bool}

theorem ofBytes_borrower {e : Borrower} (h : (Entry.borrower e).inRange = true) :
    Entry.ofBytes .borrower first (Entry.borrower e).bytes = some (.borrower e) := by
  have hreads := Entry.reads h
  simp only [Entry.fields, ReadsAll, Nat.reduceAdd] at hreads
  obtain ⟨hlimit, hthreshold⟩ := adjustments_readBack h
  simp only [Entry.ofBytes, byteAt_eq_beField, hreads, e.flags.code_lt, if_true, BorrowerFlags.ofCode_code, hlimit, hthreshold]

theorem ofBytes_exception {e : ItemException} (h : (Entry.exception e).inRange = true) :
    Entry.ofBytes .itemException first (Entry.exception e).bytes = some (.exception e) := by
  have hreads := Entry.reads h
  simp only [Entry.fields, ReadsAll, Nat.reduceAdd] at hreads
  simp only [Entry.inRange, Bool.and_eq_true] at h
  obtain ⟨⟨⟨-, hclass⟩, -⟩, hexpiry⟩ := h
  have hclass' := present_or_absent hclass (d := 0xFF) (by decide)
  have hexpiry' := present_or_absent hexpiry (d := 0xFFFF) (by decide)
  simp only [Entry.ofBytes, byteAt_eq_beField, hreads, ExceptionState.ofCode_code, hclass', hexpiry', Option.map_some]

theorem ofBytes_closedDay {d : Nat} (h : (Entry.closedDay d).inRange = true) :
    Entry.ofBytes .calendar false (Entry.closedDay d).bytes = some (.closedDay d) := by
  have hreads := Entry.reads h
  simp only [Entry.fields, ReadsAll] at hreads
  simp only [Entry.ofBytes, hreads, Bool.false_eq_true, if_false]

theorem ofBytes_header {e : CalendarHeader} (h : (Entry.header e).inRange = true) :
    Entry.ofBytes .calendar true (Entry.header e).bytes = some (.header e) := by
  have hlength : e.hours.length = 7 := by
    simp only [Entry.inRange, Bool.and_eq_true, beq_iff_eq] at h
    obtain ⟨⟨⟨⟨-, hlength⟩, -⟩, -⟩, -⟩ := h
    exact hlength
  obtain ⟨hmask, hrest⟩ := Entry.reads h
  obtain ⟨hhours, hrest⟩ := readsAll_append hrest
  rw [widthOf_flatMap (m := 4) (fun _ => rfl), hlength] at hrest
  obtain ⟨hhorizon, hshelf, -⟩ := hrest
  simp only [Nat.reduceAdd, Nat.reduceMul, Nat.zero_add] at hmask hhours hhorizon hshelf
  have hfirst : (Entry.header e).bytes.getD 0 0 = e.mask := rfl
  have hlist : ((List.range 7).map fun i =>
      (beField (Entry.header e).bytes (1 + 4 * i) 2, beField (Entry.header e).bytes (3 + 4 * i) 2)) = e.hours := by
    refine List.ext_getElem (by simp [hlength]) fun k hk hk' => ?_
    rw [List.getElem_map, List.getElem_range]
    exact readsAll_hours hhours hk'
  simp only [Entry.ofBytes, if_true, hfirst, hlist, byteAt_eq_beField, hhorizon, hshelf]

theorem ofBytes_symbol {e : SymbolFormat} (h : (Entry.symbol e).inRange = true) :
    Entry.ofBytes .symbolFormat first (Entry.symbol e).bytes = some (.symbol e) := by
  have hlead : e.lead.length ≤ 4 := by
    simp only [Entry.inRange, Bool.and_eq_true, decide_eq_true_eq] at h
    obtain ⟨⟨⟨⟨hlead, -⟩, -⟩, -⟩, -⟩ := h
    exact hlead
  have hwidth : widthOf (byteFields (paddedLead e.lead)) = 4 := by
    rw [widthOf_byteFields, paddedLead, List.length_append, List.length_replicate]
    omega
  obtain ⟨hcount, hrest⟩ := Entry.reads h
  obtain ⟨-, hrest⟩ := readsAll_append hrest
  simp only [hwidth, ReadsAll, Nat.reduceAdd] at hcount hrest
  have hbytes : (Entry.symbol e).bytes
      = byte e.lead.length :: (e.lead ++ (List.replicate (4 - e.lead.length) 0
          ++ [byte e.minLength, byte e.maxLength, byte e.kind.code, byte e.check.code, byte e.strip])) := by
    simp [Entry.bytes]
  have hlead' : ((Entry.symbol e).bytes.drop 1).take e.lead.length = e.lead := by rw [hbytes]; simp
  have hpadding : (((Entry.symbol e).bytes.drop (1 + e.lead.length)).take (4 - e.lead.length)).all (· == 0) = true := by
    rw [hbytes, Nat.add_comm]
    simp
  simp only [Entry.ofBytes, byteAt_eq_beField, hcount, hrest, SymbolKind.ofCode_code, CheckScheme.ofCode_code, hlead, hlead', hpadding,
    and_self, if_true]

end

/-- The table an entry belongs to (Table 6). -/
def Entry.table : Entry → TableId
  | .borrower _ => .borrower
  | .exception _ => .itemException
  | .range _ => .classRange
  | .category _ => .category
  | .policy _ => .policy
  | .header _ | .closedDay _ => .calendar
  | .staff _ => .staff
  | .symbol _ => .symbolFormat

/-- Every entry in range reads back from its load layout; of the Calendar's, the header is the first (Table 18). -/
theorem decodeEntry_bytes {e : Entry} {first : Bool} (h : e.inRange = true) (hheader : ∀ g, e = .header g → first = true)
    (hday : ∀ d, e = .closedDay d → first = false) : decodeEntry e.table first e.bytes = some e := by
  refine decodeEntry_of_ofBytes ?_ h
  cases e with
  | borrower e => exact ofBytes_borrower h
  | exception e => exact ofBytes_exception h
  | range e | category e | policy e | staff e =>
    have hreads := Entry.reads h
    simp only [Entry.fields, ReadsAll, Nat.reduceAdd] at hreads
    simp only [Entry.table, Entry.ofBytes, byteAt_eq_beField, hreads, CellKind.ofCode_code, Option.map_some]
  | header e =>
    rw [hheader e rfl]
    exact ofBytes_header h
  | closedDay d =>
    rw [hday d rfl]
    exact ofBytes_closedDay h
  | symbol e => exact ofBytes_symbol h

/-! ### A patch and its record (R119, Table 16) -/

section
variable (blank : JournalRecord)

/-- The numbers of an inserted borrower that share a record field come apart again (R119). -/
theorem sharedFields_apart (e : Borrower) :
    (e.flags.code + e.category * 16) / 16 = e.category ∧ (e.flags.code + e.category * 16) % 8 = e.flags.code
      ∧ (e.fines * 2 ^ 32 + twosOf 16 e.thresholdAdjust * 2 ^ 16) / 2 ^ 32 = e.fines
      ∧ (e.fines * 2 ^ 32 + twosOf 16 e.thresholdAdjust * 2 ^ 16) / 2 ^ 16 % 2 ^ 16 = twosOf 16 e.thresholdAdjust := by
  have hflags := e.flags.code_lt
  have hthreshold := twosOf_lt 16 e.thresholdAdjust
  omega

theorem patchOf_insertBorrower {card : Nat} {e : Borrower} (hcard : e.card = card) (h : (Entry.borrower e).inRange = true) :
    patchOf ((Patch.borrower card (.insert e)).record blank) = some (.borrower card (.insert e)) := by
  subst hcard
  obtain ⟨hlimit, hthreshold⟩ := adjustments_readBack h
  simp only [Patch.record, BorrowerOp.record, patchOf, sharedFields_apart e, BorrowerFlags.ofCode_code, hlimit, hthreshold]

/-- A hold expiry stands in HOLD_ON_SHELF and in no other state (R99). -/
theorem presenceRule_expiry {st : ExceptionState} {card : Nat} {expiry : Option Nat} (h : presenceRule st card expiry = true) :
    (st = .holdOnShelf ∧ ∃ day, expiry = some day) ∨ (st ≠ .holdOnShelf ∧ expiry = none) := by
  cases st with
  | holdOnShelf =>
    obtain ⟨-, hsome⟩ := Bool.and_eq_true_iff.mp h
    exact .inl ⟨rfl, Option.isSome_iff_exists.mp hsome⟩
  | notForLoan | missing | onLoanElsewhere | holdWaiting =>
    obtain ⟨-, hnone⟩ := Bool.and_eq_true_iff.mp h
    exact .inr ⟨nofun, Option.isNone_iff_eq_none.mp hnone⟩

theorem expiryOf_getD {st : ExceptionState} {card : Nat} {expiry : Option Nat} (h : presenceRule st card expiry = true) :
    expiryOf st (expiry.getD 0) = expiry := by
  obtain ⟨rfl, day, rfl⟩ | ⟨hshelf, rfl⟩ := presenceRule_expiry h
  · rfl
  · exact if_neg hshelf

theorem patchOf_insertItem {key : Nat} {e : ItemException} (hkey : e.item = key) (h : (Entry.exception e).inRange = true)
    (hpresence : presenceRule e.state e.holdCard e.holdExpiry = true) :
    patchOf ((Patch.item key (.insert e)).record blank) = some (.item key (.insert e)) := by
  subst hkey
  simp only [Entry.inRange, Bool.and_eq_true] at h
  obtain ⟨⟨⟨-, hclass⟩, -⟩, -⟩ := h
  have hclass' := present_or_absent hclass (d := 0xFF) (by decide)
  have hcarried : patchOf ((Patch.item e.item (.insert e)).record blank)
      = (ExceptionState.ofCode e.state.code).map fun st =>
          .item e.item (.insert
            { item := e.item, state := st,
              classOverride := if e.classOverride.getD 0xFF = 0xFF then none else some (e.classOverride.getD 0xFF),
              holdCard := e.holdCard, holdExpiry := expiryOf st (e.holdExpiry.getD 0) }) := rfl
  rw [hcarried, hclass', ExceptionState.ofCode_code, Option.map_some, expiryOf_getD hpresence]

theorem patchOf_setState {key card : Nat} {st : ExceptionState} {expiry : Option Nat} (h : presenceRule st card expiry = true) :
    patchOf ((Patch.item key (.setState st card expiry)).record blank) = some (.item key (.setState st card expiry)) := by
  simp only [Patch.record, ItemOp.record, patchOf, ExceptionState.ofCode_code, Option.map_some, expiryOf_getD h]

theorem patchOf_setFlags (card : Nat) (m : BorrowerFlags) :
    patchOf ((Patch.borrower card (.setFlags m)).record blank) = some (.borrower card (.setFlags m)) := by
  simp only [Patch.record, BorrowerOp.record, patchOf, BorrowerFlags.ofCode_code]

theorem patchOf_clearFlags (card : Nat) (m : BorrowerFlags) :
    patchOf ((Patch.borrower card (.clearFlags m)).record blank) = some (.borrower card (.clearFlags m)) := by
  simp only [Patch.record, BorrowerOp.record, patchOf, BorrowerFlags.ofCode_code]

theorem patchOf_setFines (card n : Nat) :
    patchOf ((Patch.borrower card (.setFines n)).record blank) = some (.borrower card (.setFines n)) := by
  have hfines : n * 2 ^ 32 / 2 ^ 32 = n := Nat.mul_div_cancel n (by decide)
  simp only [Patch.record, BorrowerOp.record, patchOf, hfines]

end

/-- Settles O53: the entries kind by kind, the patches operation by operation. -/
theorem entryReadsBack : Obligations.EntryReadsBack := by
  constructor
  · intro e first h hheader hday
    have hread := decodeEntry_bytes h hheader hday
    cases e <;> exact hread
  · intro blank p h _
    cases p with
    | borrower card op =>
      cases op with
      | setFlags m => exact patchOf_setFlags blank card m
      | clearFlags m => exact patchOf_clearFlags blank card m
      | setFines n => exact patchOf_setFines blank card n
      | setExpiry day => rfl
      | insert e =>
        obtain ⟨hcard, hrange⟩ := h
        exact patchOf_insertBorrower blank hcard hrange
      | delete => rfl
    | item key op =>
      cases op with
      | insert e =>
        obtain ⟨hkey, hrange, hpresence⟩ := h
        exact patchOf_insertItem blank hkey hrange hpresence
      | delete => rfl
      | setState st card expiry => exact patchOf_setState blank h

end Sys2Proof.Machine
end

section
/-! SUPPORT. Patches (R116 to R119): what each operation's operand carries, and the patch that passes every check of R118. -/

namespace Sys2Proof.Machine

open Config

/-! ### Operands (Table 16) -/

theorem beField_beBytes {n v : Nat} (h : v < 256 ^ n) : beField (beBytes n v) 0 n = v := by
  rw [beField, List.drop_zero, List.take_of_length_le (length_beBytes n v).le, beNat_beBytes h]

/-- The hold expiry that the presence rule asks for is the one the operand carries (R99, R185, log 17). -/
theorem operandExpiry_getD {st : ExceptionState} {card : Nat} {expiry : Option (BitVec 16)}
    (h : presenceRule st card (expiry.map (·.toNat)) = true) : operandExpiry st (expiry.getD 0).toNat = expiry.map (·.toNat) := by
  obtain ⟨rfl, day, hday⟩ | ⟨hshelf, hnone⟩ := presenceRule_expiry h
  · obtain ⟨d, rfl, -⟩ := Option.map_eq_some_iff.mp hday
    exact if_neg fun ⟨_, hne⟩ => hne rfl
  · rw [Option.map_eq_none_iff.mp hnone]
    exact if_pos ⟨rfl, hshelf⟩

section
variable {key : Nat} (hkey : isIdentity key = true)
include hkey

theorem borrowerPatch_setFlags {mask : Byte} (h : mask.toNat < 8) :
    borrowerPatch 0 key [mask] = some (.setFlags (BorrowerFlags.ofCode mask.toNat)) := by
  have hmask : byteAt [mask] 0 = mask.toNat := rfl
  simp [borrowerPatch, hkey, hmask, h]

theorem borrowerPatch_clearFlags {mask : Byte} (h : mask.toNat < 8) :
    borrowerPatch 1 key [mask] = some (.clearFlags (BorrowerFlags.ofCode mask.toNat)) := by
  have hmask : byteAt [mask] 0 = mask.toNat := rfl
  simp [borrowerPatch, hkey, hmask, h]

theorem borrowerPatch_setFines (fines : BitVec 16) :
    borrowerPatch 2 key (beBytes 2 fines.toNat) = some (.setFines fines.toNat) := by
  have hfines : beField (beBytes 2 fines.toNat) 0 2 = fines.toNat := beField_beBytes fines.isLt
  simp [borrowerPatch, hkey, hfines]

theorem borrowerPatch_setExpiry {day : BitVec 16} (h : day.toNat ≤ lastDay) :
    borrowerPatch 3 key (beBytes 2 day.toNat) = some (.setExpiry day.toNat) := by
  have hday : beField (beBytes 2 day.toNat) 0 2 = day.toNat := beField_beBytes day.isLt
  simp [borrowerPatch, hkey, hday, h]

theorem borrowerPatch_insert {e : Borrower} (hcard : e.card = key) (h : (Entry.borrower e).inRange = true) :
    borrowerPatch 4 key (Entry.borrower e).bytes = some (.insert e) := by
  have hentry : decodeEntry .borrower false (Entry.borrower e).bytes = some (.borrower e) := decodeEntry_of_ofBytes (ofBytes_borrower h) h
  simp [borrowerPatch, hkey, hentry, hcard]

theorem borrowerPatch_delete : borrowerPatch 5 key [] = some .delete := by
  simp [borrowerPatch, hkey]

theorem itemPatch_insert {e : ItemException} (hitem : e.item = key) (h : (Entry.exception e).inRange = true)
    (hpresence : presenceRule e.state e.holdCard e.holdExpiry = true) :
    itemPatch 0 key (Entry.exception e).bytes = some (.insert e) := by
  have hentry : decodeEntry .itemException false (Entry.exception e).bytes = some (.exception e) :=
    decodeEntry_of_ofBytes (ofBytes_exception h) h
  simp [itemPatch, hkey, hentry, hitem, hpresence]

theorem itemPatch_delete : itemPatch 1 key [] = some .delete := by
  simp [itemPatch, hkey]

theorem itemPatch_setState {st : ExceptionState} {card : BitVec 48} {expiry : Option (BitVec 16)} (hcard : card.toNat ≤ maxIdentity)
    (hexpiry : ∀ d ∈ expiry, d.toNat ≤ lastDay) (hpresence : presenceRule st card.toNat (expiry.map (·.toNat)) = true) :
    itemPatch 2 key (setStateOperand (byte st.code) card (expiry.getD 0))
      = some (.setState st card.toNat (expiry.map (·.toNat))) := by
  have hoperand : setStateOperand (byte st.code) card (expiry.getD 0)
      = layout [(1, st.code), (6, card.toNat), (2, (expiry.getD 0).toNat)] := by
    simp [setStateOperand, beBytes_one]
  have hfit : FieldsFit [(1, st.code), (6, card.toNat), (2, (expiry.getD 0).toNat)] := by
    simp only [fieldsFit_cons, fieldsFit_nil, and_true]
    exact ⟨st.code_lt, card.isLt, (expiry.getD 0).isLt⟩
  obtain ⟨hstate, hhold, hday, -⟩ := readsAll_of_spells (spellsAll_layout _) hfit
  rw [← hoperand] at hstate hhold hday
  simp only [Nat.reduceAdd] at hstate hhold hday
  have hrange : ((expiry.map (·.toNat)).all fun d => decide (d ≤ lastDay)) = true := by
    cases expiry with
    | none => rfl
    | some day => exact decide_eq_true (hexpiry day rfl)
  simp only [itemPatch, hkey, Bool.not_true, Bool.false_eq_true, if_false, byteAt_eq_beField, hstate, hhold, hday,
    ExceptionState.ofCode_code, operandExpiry_getD hpresence, hcard, hrange, hpresence, and_self, if_true]

end

/-! ### The checks (R118) -/

/-- The state with a patch pending and its turn asked for (R118, R133). -/
def State.withPatch (s : State) (p : Patch) : State := State.ask { s with tables := { s.tables with patch := some p } } .patch

section
variable {s : State} (hfree : s.tables.committing = false) (hpatch : s.tables.patch = none) (hvalid : s.tables.valid = true)
include hfree hpatch hvalid

theorem State.answerPatch_pending {table : TableId} {p : Patch} (hcopy : (s.tables.standbyOf table).state ≠ .copying)
    (hforbids : s.tables.protection.forbids p = false) (hfull : s.tables.liveTables.fullFor p = false) :
    s.answerPatch table (some p) = (s.withPatch p).done := by
  have hbusy : ¬(s.tables.committing || (s.tables.standbyOf table).state == .copying || s.tables.patch.isSome) = true := by
    simp [hfree, hcopy, hpatch]
  have hstate : ¬(!s.tables.valid) = true := by simp [hvalid]
  rw [State.answerPatch, if_neg hbusy, if_neg hstate]
  exact (if_neg (ne_true_of_eq_false hforbids)).trans (if_neg (ne_true_of_eq_false hfull))

variable (hs : s.serves 1 = true) {c : Instr} {key : BitVec 48} (operation : Byte) {operand : List Byte}
include hs

theorem exec_patchBorrower_pending (hcopy : (s.tables.standbyOf .borrower).state ≠ .copying)
    (hrow : exec c s = finish s (s.takeRequest (.patchBorrower operation key operand)))
    (hfits : (borrowerOperandLength operation.toNat).all (· == operand.length) = true) {op : BorrowerOp}
    (hop : borrowerPatch operation.toNat key.toNat operand = some op)
    (hforbids : s.tables.protection.forbids (.borrower key.toNat op) = false)
    (hfull : s.tables.liveTables.fullFor (.borrower key.toNat op) = false) :
    exec c s = .next (answered s (s.withPatch (.borrower key.toNat op)) 0x8E [0]) := by
  refine exec_served (.patchBorrower operation key operand) hrow rfl hs hfits (a := (s.withPatch (.borrower key.toNat op)).done) ?_ rfl
  rw [State.serve, hop]
  exact State.answerPatch_pending hfree hpatch hvalid hcopy hforbids hfull

theorem exec_patchItem_pending (hcopy : (s.tables.standbyOf .itemException).state ≠ .copying)
    (hrow : exec c s = finish s (s.takeRequest (.patchItem operation key operand)))
    (hfits : (itemOperandLength operation.toNat).all (· == operand.length) = true) {op : ItemOp}
    (hop : itemPatch operation.toNat key.toNat operand = some op)
    (hmask : s.tables.protection.patchMask.getLsbD 4 = false)
    (hfull : s.tables.liveTables.fullFor (.item key.toNat op) = false) :
    exec c s = .next (answered s (s.withPatch (.item key.toNat op)) 0x8F [0]) := by
  have hforbids : s.tables.protection.forbids (.item key.toNat op) = false := by
    simp only [Protection.forbids, Patch.maskBit, hmask, Bool.or_self]
  refine exec_served (.patchItem operation key operand) hrow rfl hs hfits (a := (s.withPatch (.item key.toNat op)).done) ?_ rfl
  rw [State.serve, hop]
  exact State.answerPatch_pending hfree hpatch hvalid hcopy hforbids hfull

end

/-- Settles O45: each operation's operand, then the checks that every patch passes in the same way. -/
theorem patchesBecomePending : Obligations.PatchesBecomePending := by
  intro s key hs hfree hpatch hvalid hlow hhigh pending
  have hkey : isIdentity key.toNat = true := decide_eq_true ⟨hlow, hhigh⟩
  refine ⟨fun hcopy => ?_, fun hcopy hmask => ?_⟩
  · intro ok allowed
    have hserved := @exec_patchBorrower_pending s hfree hpatch hvalid hs
    refine ⟨fun mask hm ha => ?_, fun mask hm ha => ?_, fun fines ha => ?_, fun day hd ha => ?_, fun e hcard he ha hfull => ?_, fun ha => ?_⟩
    · exact hserved 0 hcopy rfl rfl (borrowerPatch_setFlags hkey hm) ha rfl
    · exact hserved 1 hcopy rfl rfl (borrowerPatch_clearFlags hkey hm) ha rfl
    · exact hserved 2 hcopy rfl rfl (borrowerPatch_setFines hkey fines) ha rfl
    · exact hserved 3 hcopy rfl rfl (borrowerPatch_setExpiry hkey hd) ha rfl
    · exact hserved 4 hcopy rfl rfl (borrowerPatch_insert hkey hcard he) ha hfull
    · exact hserved 5 hcopy rfl rfl (borrowerPatch_delete hkey) ha rfl
  · intro ok
    have hserved := @exec_patchItem_pending s hfree hpatch hvalid hs
    refine ⟨fun e hitem he hpresence hfull => ?_, ?_, fun st card expiry hcard hexpiry hpresence => ?_⟩
    · exact hserved 0 hcopy rfl rfl (itemPatch_insert hkey hitem he hpresence) hmask hfull
    · exact hserved 1 hcopy rfl rfl (itemPatch_delete hkey) hmask rfl
    · exact hserved 2 hcopy rfl rfl (itemPatch_setState hkey hcard hexpiry hpresence) hmask rfl

end Sys2Proof.Machine
end

section
/-! SUPPORT. Journal recovery (R129, R143): what each slot holds after it, the records of the store, and the last complete sequence. -/

namespace Sys2Proof.Machine

open Config

/-! ### The slots (R143) -/

/-- In the canonical form a filtered slot store shows exactly the entries that pass. -/
theorem findSlot_filter_iff {l : List (Nat × Slot)} (h : slotsWf l = true) (p : Nat × Slot → Bool) (n : Nat) (v : Slot) :
    findSlot (l.filter p) n = some v ↔ findSlot l n = some v ∧ p (n, v) = true := by
  constructor
  · intro hfind
    obtain ⟨hmem, hp⟩ := List.mem_filter.mp (mem_of_findSlot hfind)
    exact ⟨findSlot_of_mem h hmem, hp⟩
  · rintro ⟨hfind, hp⟩
    exact findSlot_of_mem (slotsWf_filter p h) (List.mem_filter.mpr ⟨mem_of_findSlot hfind, hp⟩)

theorem soundRecord_eq_some {e : Nat × Slot} {r : JournalRecord} :
    soundRecord e = some r ↔ e.2 = .record r ∧ 1 ≤ r.sequence ∧ slotOf r.sequence = e.1 := by
  obtain ⟨n, v⟩ := e
  cases v with
  | torn => simp [soundRecord]
  | record q =>
    simp only [soundRecord, Option.ite_none_right_eq_some, Option.some.injEq, Slot.record.injEq]
    constructor
    · rintro ⟨hsound, rfl⟩
      exact ⟨rfl, hsound⟩
    · rintro ⟨rfl, hsound⟩
      exact ⟨hsound, rfl⟩

section
variable {j : Journal}

/-- The slots once the interrupted erase is redone (R143). -/
def Journal.reErasedSlots (j : Journal) : List (Nat × Slot) :=
  match j.eraseMarker with
  | some p => blankPage p j.slots
  | none => j.slots

theorem Journal.recover_slots (j : Journal) : j.recover.slots = j.reErasedSlots.filter fun e => (soundRecord e).isSome := rfl

theorem Journal.findSlot_reErasedSlots (j : Journal) (n : Nat) (v : Slot) :
    findSlot j.reErasedSlots n = some v ↔ findSlot j.slots n = some v ∧ j.eraseMarker ≠ some (n / 32) := by
  unfold Journal.reErasedSlots
  cases hmarker : j.eraseMarker with
  | none => simp
  | some p =>
    dsimp only
    by_cases hp : n / pageSlots = p
    · rw [findSlot_blankPage_inside _ hp]
      have hmarked : some p = some (n / 32) := congrArg some hp.symm
      simp [hmarked]
    · rw [findSlot_blankPage_outside _ hp]
      have hunmarked : some p ≠ some (n / 32) := fun e => hp (Option.some.inj e).symm
      simp [hunmarked]

variable (h : slotsWf j.slots = true)
include h

theorem Journal.slotsWf_reErasedSlots : slotsWf j.reErasedSlots = true := by
  unfold Journal.reErasedSlots
  split
  · exact slotsWf_blankPage _ h
  · exact h

/-- Recovery keeps the records that belong to their slots, outside the page the marker names (R143). -/
theorem Journal.findSlot_recover (n : Nat) (v : Slot) :
    findSlot j.recover.slots n = some v
      ↔ findSlot j.slots n = some v ∧ j.eraseMarker ≠ some (n / 32) ∧ (soundRecord (n, v)).isSome = true := by
  rw [Journal.recover_slots, findSlot_filter_iff (Journal.slotsWf_reErasedSlots h), Journal.findSlot_reErasedSlots, and_assoc]

theorem Journal.findSlot_recover_record (n : Nat) (r : JournalRecord) :
    findSlot j.recover.slots n = some (.record r)
      ↔ findSlot j.slots n = some (.record r) ∧ (1 ≤ r.sequence ∧ (r.sequence - 1) % 4096 = n) ∧ ¬j.eraseMarker = some (n / 32) := by
  rw [Journal.findSlot_recover h, soundRecord_record_isSome, decide_eq_true_eq]
  tauto

theorem Journal.findSlot_recover_torn (n : Nat) : findSlot j.recover.slots n ≠ some .torn := by
  rw [ne_eq, Journal.findSlot_recover h]
  simp [soundRecord]

/-! ### The records (R129, R143) -/

theorem Journal.mem_records_iff (r : JournalRecord) : r ∈ j.slots.filterMap soundRecord ↔ j.Holds r := by
  rw [List.mem_filterMap]
  constructor
  · rintro ⟨e, he, hr⟩
    obtain ⟨hv, hpos, hn⟩ := soundRecord_eq_some.mp hr
    refine ⟨hpos, ?_⟩
    have hfind := findSlot_of_mem h he
    rw [hv, ← hn] at hfind
    exact hfind
  · rintro ⟨hpos, hfind⟩
    exact ⟨_, mem_of_findSlot hfind, soundRecord_eq_some.mpr ⟨rfl, hpos, rfl⟩⟩

theorem Journal.mem_pageRecords_iff (p : Nat) (r : JournalRecord) :
    r ∈ pageRecords j.slots p ↔ j.Holds r ∧ pageOf r.sequence = p := by
  rw [pageRecords, List.mem_filterMap]
  constructor
  · rintro ⟨e, he, hr⟩
    obtain ⟨he, hp⟩ := List.mem_filter.mp he
    obtain ⟨-, -, hn⟩ := soundRecord_eq_some.mp hr
    refine ⟨(Journal.mem_records_iff h r).mp (List.mem_filterMap.mpr ⟨e, he, hr⟩), ?_⟩
    rw [← hn] at hp
    exact beq_iff_eq.mp hp
  · rintro ⟨⟨hpos, hfind⟩, hp⟩
    exact ⟨_, List.mem_filter.mpr ⟨mem_of_findSlot hfind, beq_iff_eq.mpr hp⟩, soundRecord_eq_some.mpr ⟨rfl, hpos, rfl⟩⟩

end

/-- Two records of one sequence share a slot (R129). -/
theorem Journal.Holds.unique {j : Journal} {q r : JournalRecord} (hq : j.Holds q) (hr : j.Holds r) (e : q.sequence = r.sequence) :
    q = r := by
  obtain ⟨-, hq⟩ := hq
  obtain ⟨-, hr⟩ := hr
  rw [e, hr] at hq
  cases hq
  rfl

/-- The highest sequence of some records, 0 with none (R129). -/
theorem highest_le {l : List JournalRecord} (m : Nat) :
    m ≤ l.foldl (fun m r => max m r.sequence) m ∧ ∀ r ∈ l, r.sequence ≤ l.foldl (fun m r => max m r.sequence) m := by
  induction l generalizing m with
  | nil => exact ⟨Nat.le_refl m, List.forall_mem_nil _⟩
  | cons a rest ih =>
    obtain ⟨hm, hrest⟩ := ih (max m a.sequence)
    exact ⟨Nat.le_trans (Nat.le_max_left ..) hm, List.forall_mem_cons.mpr ⟨Nat.le_trans (Nat.le_max_right ..) hm, hrest⟩⟩

theorem highest_attained {l : List JournalRecord} (m : Nat) :
    l.foldl (fun m r => max m r.sequence) m = m ∨ ∃ r ∈ l, r.sequence = l.foldl (fun m r => max m r.sequence) m := by
  induction l generalizing m with
  | nil => exact .inl rfl
  | cons a rest ih =>
    obtain hm | ⟨r, hr, hlast⟩ := ih (max m a.sequence)
    · obtain hmax | hmax := max_choice m a.sequence
      · exact .inl (hm.trans hmax)
      · exact .inr ⟨a, List.mem_cons_self .., (hm.trans hmax).symm⟩
    · exact .inr ⟨r, List.mem_cons_of_mem _ hr, hlast⟩

section
variable {j : Journal} (h : slotsWf j.slots = true)
include h

/-- What recovery finds in a slot is held in the store, in its own slot (R143). -/
theorem Journal.holds_recover {n : Nat} {r : JournalRecord} (hfind : findSlot j.recover.slots n = some (.record r)) :
    j.recover.Holds r := by
  obtain ⟨-, ⟨hpos, hn⟩, -⟩ := (Journal.findSlot_recover_record h n r).mp hfind
  subst hn
  exact ⟨hpos, hfind⟩

theorem Journal.recover_lastComplete_ge {r : JournalRecord} (hr : j.recover.Holds r) : r.sequence ≤ j.recover.lastComplete := by
  obtain ⟨-, hle⟩ := highest_le (l := j.recover.slots.filterMap soundRecord) 0
  exact hle r ((Journal.mem_records_iff (j.slotsWf_recover h) r).mpr hr)

theorem Journal.recover_lastComplete_attained :
    j.recover.lastComplete = 0 ∨ ∃ r, j.recover.Holds r ∧ r.sequence = j.recover.lastComplete := by
  obtain hzero | ⟨r, hr, hlast⟩ := highest_attained (l := j.recover.slots.filterMap soundRecord) 0
  · exact .inl hzero
  · exact .inr ⟨r, (Journal.mem_records_iff (j.slotsWf_recover h) r).mp hr, hlast⟩

end

end Sys2Proof.Machine
end

section
/-! SUPPORT. The end of recovery (R126, R144, R154): page states and erase queue, the recovery marks, and the flip that the newest TABLE_COMMIT
record completes. -/

namespace Sys2Proof.Machine

open Config

/-! ### The pages (R130, R144) -/

theorem findSlot_isSome_iff {l : List (Nat × Slot)} (h : slotsWf l = true) (n : Nat) :
    (findSlot l n).isSome = true ↔ n ∈ l.map (·.1) := by
  rw [Option.isSome_iff_exists, List.mem_map]
  constructor
  · rintro ⟨v, hv⟩
    exact ⟨_, mem_of_findSlot hv, rfl⟩
  · rintro ⟨e, he, rfl⟩
    exact ⟨_, findSlot_of_mem h he⟩

/-- A page of a store that holds records alone holds as many as it has slots that are not blank. -/
theorem pageRecords_length {l : List (Nat × Slot)} (h : slotsWf l = true) (hsound : ∀ e ∈ l, (soundRecord e).isSome = true) (p : Nat) :
    (pageRecords l p).length = ((List.range 32).filter fun k => (findSlot l (32 * p + k)).isSome).length := by
  have hentries : (pageRecords l p).length = (l.filter fun e => e.1 / pageSlots == p).length := by
    rw [pageRecords, List.length_filterMap_eq_countP, List.countP_eq_length]
    exact fun e he => hsound e (List.mem_filter.mp he).1
  obtain ⟨hrising, -⟩ := (slotsWf_iff l).mp h
  have hnodup : ((l.filter fun e => e.1 / pageSlots == p).map (·.1)).Nodup :=
    (hrising.sublist (List.filter_sublist.map _)).imp Nat.ne_of_lt
  have hnodup' : (((List.range 32).filter fun k => (findSlot l (32 * p + k)).isSome).map (32 * p + ·)).Nodup :=
    (List.nodup_range.filter _).map fun _ _ => Nat.add_left_cancel
  have hperm := (List.perm_ext_iff_of_nodup hnodup hnodup').mpr fun n => by
    simp only [List.mem_map, List.mem_filter, List.mem_range, beq_iff_eq, findSlot_isSome_iff h, pageSlots]
    constructor
    · rintro ⟨e, ⟨he, hp⟩, rfl⟩
      have hplace : 32 * p + e.1 % 32 = e.1 := by omega
      exact ⟨e.1 % 32, ⟨Nat.mod_lt _ (by decide), e, he, hplace.symm⟩, hplace⟩
    · rintro ⟨k, ⟨hk, e, he, hn⟩, rfl⟩
      exact ⟨e, ⟨he, by omega⟩, hn⟩
  rw [hentries]
  simpa only [List.length_map] using hperm.length_eq

/-- A page's state by its contents (R144), in the terms that say what those are. -/
theorem derivedPage_cases {slots : List (Nat × Slot)} {released last p n : Nat} {holdsLast allReleased : Prop}
    (hn : (pageRecords slots p).length = n) (hlast : ((pageRecords slots p).any fun r => r.sequence == last) = true ↔ holdsLast)
    (hall : ((pageRecords slots p).all fun r => decide (r.sequence ≤ released)) = true ↔ allReleased) :
    (n = 0 → derivedPage slots released last p = .erased) ∧
    (n ≠ 0 →
      (n < 32 ∧ holdsLast → derivedPage slots released last p = .filling) ∧
      (¬(n < 32 ∧ holdsLast) → allReleased ∧ ¬holdsLast → derivedPage slots released last p = .released) ∧
      (¬(n < 32 ∧ holdsLast) → ¬(allReleased ∧ ¬holdsLast) → derivedPage slots released last p = .full)) := by
  subst hn
  rw [← hlast, ← hall]
  unfold derivedPage
  dsimp only
  refine ⟨fun h0 => if_pos (List.isEmpty_iff_length_eq_zero.mpr h0), fun h0 => ?_⟩
  rw [if_neg (mt List.isEmpty_iff_length_eq_zero.mp h0)]
  refine ⟨fun hfill => if_pos hfill, fun hfill hrel => ?_, fun hfill hrel => ?_⟩
  · obtain ⟨hall, hlast⟩ := hrel
    refine (if_neg hfill).trans (if_neg ?_)
    simpa [hall] using hlast
  · refine (if_neg hfill).trans (if_pos ?_)
    simpa only [Bool.or_eq_true, Bool.not_eq_true', ← Bool.not_eq_true, not_and_or, not_not, or_comm] using hrel

section
variable {j : Journal}

theorem Journal.recover_sound (j : Journal) : ∀ e ∈ j.recover.slots, (soundRecord e).isSome = true :=
  fun _ he => (List.mem_filter.mp he).2

theorem Journal.recover_page (j : Journal) {p : Nat} (hp : p < 128) :
    j.recover.page p = derivedPage j.recover.slots j.released j.recover.lastComplete p := by
  have hpages : j.recover.pages
      = Vector.ofFn fun q : Fin 128 => derivedPage j.recover.slots j.released j.recover.lastComplete q.val := rfl
  rw [Journal.page, hpages, Vector.getElem?_ofFn, dif_pos hp]
  rfl

variable (h : slotsWf j.slots = true)
include h

/-- The page of the last complete record is the one that holds it (R129, R144). -/
theorem Journal.recover_holdsLast_iff (p : Nat) :
    ((pageRecords j.recover.slots p).any fun r => r.sequence == j.recover.lastComplete) = true
      ↔ j.recover.lastComplete ≠ 0 ∧ pageOf j.recover.lastComplete = p := by
  have hmem := Journal.mem_pageRecords_iff (j.slotsWf_recover h) p
  rw [List.any_eq_true]
  constructor
  · rintro ⟨r, hr, hlast⟩
    obtain ⟨⟨hpos, -⟩, hp⟩ := (hmem r).mp hr
    rw [← beq_iff_eq.mp hlast]
    exact ⟨Nat.ne_of_gt hpos, hp⟩
  · rintro ⟨hpos, hp⟩
    obtain hzero | ⟨r, hr, hlast⟩ := Journal.recover_lastComplete_attained h
    · exact absurd hzero hpos
    · rw [← hlast] at hp
      exact ⟨r, (hmem r).mpr ⟨hr, hp⟩, beq_iff_eq.mpr hlast⟩

theorem Journal.recover_released_iff (p released : Nat) :
    ((pageRecords j.recover.slots p).all fun r => decide (r.sequence ≤ released)) = true
      ↔ ∀ r, j.recover.Holds r → pageOf r.sequence = p → r.sequence ≤ released := by
  simp only [List.all_eq_true, decide_eq_true_eq, Journal.mem_pageRecords_iff (j.slotsWf_recover h) p, and_imp]

/-! ### The erase queue (R131, R144) -/

omit h

theorem mem_ringFrom_iff (first p : Nat) : p ∈ ringFrom first ↔ p < 128 := by
  refine ⟨mem_ringFrom_lt, fun hp => ?_⟩
  refine List.mem_map.mpr ⟨(p + 128 - first % 128) % 128, List.mem_range.mpr (Nat.mod_lt _ (by decide)), ?_⟩
  simp only [pageCount]
  omega

theorem Journal.headPage_lt (j : Journal) : j.headPage < 128 := Nat.div_lt_of_lt_mul (Nat.mod_lt _ (by decide))

theorem Journal.tailPage_lt (j : Journal) : j.tailPage < 128 := by
  have hring : ((ringFrom (j.headPage + 1)).find? fun p => j.page p != .erased).getD j.headPage < 128 := by
    cases hfind : (ringFrom (j.headPage + 1)).find? fun p => j.page p != .erased with
    | none => exact j.headPage_lt
    | some p => exact mem_ringFrom_lt (List.mem_of_find?_eq_some hfind)
  unfold Journal.tailPage
  split
  · exact hring
  · exact hring
  · exact j.headPage_lt

/-- The ring's order from a page is the distance from it (R131). -/
theorem ringFrom_pairwise {first : Nat} (hfirst : first < 128) :
    (ringFrom first).Pairwise fun p q => (p + 128 - first) % 128 < (q + 128 - first) % 128 := by
  refine List.pairwise_map.mpr (List.pairwise_lt_range.imp_of_mem fun {a b} ha hb hlt => ?_)
  have ha := List.mem_range.mp ha
  have hb := List.mem_range.mp hb
  simp only [pageCount] at ha hb ⊢
  omega

/-- The erase queue has no part in the tail page (R131). -/
theorem Journal.tailPage_withQueue (j : Journal) (queue : List Nat) : ({ j with eraseQueue := queue } : Journal).tailPage = j.tailPage := by
  cases j
  rfl

theorem Journal.recover_eraseQueue (j : Journal) :
    j.recover.eraseQueue = (ringFrom j.recover.tailPage).filter fun p => j.recover.page p == .released := by
  rw [← Journal.tailPage_withQueue j.recover []]
  rfl

theorem Journal.mem_recover_eraseQueue (j : Journal) (p : Nat) :
    p ∈ j.recover.eraseQueue ↔ p < 128 ∧ j.recover.page p = .released := by
  rw [Journal.recover_eraseQueue, List.mem_filter, mem_ringFrom_iff, beq_iff_eq]

theorem Journal.recover_eraseQueue_pairwise (j : Journal) :
    j.recover.eraseQueue.Pairwise fun p q =>
      (p + 128 - j.recover.tailPage) % 128 < (q + 128 - j.recover.tailPage) % 128 := by
  rw [Journal.recover_eraseQueue]
  exact (ringFrom_pairwise j.recover.tailPage_lt).filter _

/-! ### The recovery marks (R154) -/

include h

/-- The torn mark says that some slot outside the marked page was returned to blank (R143, R154). -/
theorem Journal.recover_tornMark_iff :
    j.recover.tornMark = true
      ↔ ∃ n, ¬j.eraseMarker = some (n / 32) ∧ findSlot j.slots n ≠ none ∧ findSlot j.recover.slots n = none := by
  have hmark : j.recover.tornMark
      = decide ((j.reErasedSlots.filter fun e => (soundRecord e).isSome).length < j.reErasedSlots.length) := rfl
  rw [hmark, decide_eq_true_eq, List.length_filter_lt_length_iff_exists]
  constructor
  · rintro ⟨⟨n, v⟩, hmem, hunsound⟩
    obtain ⟨hfind, hunmarked⟩ := (j.findSlot_reErasedSlots n v).mp (findSlot_of_mem (Journal.slotsWf_reErasedSlots h) hmem)
    refine ⟨n, hunmarked, by simp [hfind], Option.eq_none_iff_forall_ne_some.mpr fun w hw => ?_⟩
    obtain ⟨hfind', -, hsound⟩ := (Journal.findSlot_recover h n w).mp hw
    obtain rfl : v = w := Option.some.inj (hfind.symm.trans hfind')
    exact hunsound hsound
  · rintro ⟨n, hunmarked, hsome, hnone⟩
    obtain ⟨v, hfind⟩ := Option.ne_none_iff_exists'.mp hsome
    refine ⟨(n, v), mem_of_findSlot ((j.findSlot_reErasedSlots n v).mpr ⟨hfind, hunmarked⟩), fun hsound => ?_⟩
    rw [(Journal.findSlot_recover h n v).mpr ⟨hfind, hunmarked, hsound⟩] at hnone
    cases hnone

omit h

theorem Journal.recover_erasedAgainMark_iff (j : Journal) :
    j.recover.erasedAgainMark = true ↔ j.eraseMarker.isSome = true ∨ j.reErased = true := Bool.or_eq_true_iff

end

/-! ### The newest TABLE_COMMIT record (R126) -/

/-- The newer of the newest TABLE_COMMIT record so far and a record that may be one. -/
def newerCommit (best : Option JournalRecord) (r : JournalRecord) : Option JournalRecord :=
  if r.kind = .tableCommit then
    match best with
    | some b => if b.sequence < r.sequence then some r else best
    | none => some r
  else best

theorem Journal.newestCommit_eq (j : Journal) : j.newestCommit = (j.slots.filterMap soundRecord).foldl newerCommit none := rfl

theorem newerCommit_cases (best : Option JournalRecord) (a : JournalRecord) :
    (newerCommit best a = best ∧ (a.kind = .tableCommit → ∃ b, best = some b ∧ a.sequence ≤ b.sequence)) ∨
      (newerCommit best a = some a ∧ a.kind = .tableCommit ∧ ∀ b, best = some b → b.sequence ≤ a.sequence) := by
  unfold newerCommit
  by_cases hkind : a.kind = .tableCommit
  · rw [if_pos hkind]
    cases best with
    | none => exact .inr ⟨rfl, hkind, fun _ hb => by cases hb⟩
    | some b =>
      dsimp only
      by_cases hlt : b.sequence < a.sequence
      · rw [if_pos hlt]
        refine .inr ⟨rfl, hkind, ?_⟩
        rintro _ ⟨⟩
        exact hlt.le
      · rw [if_neg hlt]
        exact .inl ⟨rfl, fun _ => ⟨b, rfl, Nat.le_of_not_lt hlt⟩⟩
  · rw [if_neg hkind]
    exact .inl ⟨rfl, fun h => absurd h hkind⟩

/-- The newest of some records is one of them or the one before them, and none of either is newer. -/
theorem foldl_newerCommit (l : List JournalRecord) (best : Option JournalRecord) :
    (∀ b, l.foldl newerCommit best = some b → best = some b ∨ b ∈ l ∧ b.kind = .tableCommit) ∧
      ∀ q, (best = some q ∨ q ∈ l ∧ q.kind = .tableCommit) → ∃ b, l.foldl newerCommit best = some b ∧ q.sequence ≤ b.sequence := by
  induction l generalizing best with
  | nil =>
    refine ⟨fun b hb => .inl hb, fun q hq => ?_⟩
    obtain hq | ⟨hq, -⟩ := hq
    · exact ⟨q, hq, Nat.le_refl _⟩
    · cases hq
  | cons a rest ih =>
    obtain ⟨hfrom, hnewest⟩ := ih (newerCommit best a)
    rw [List.foldl_cons]
    obtain ⟨hstep, hold⟩ | ⟨hstep, hkind, hnew⟩ := newerCommit_cases best a
    · rw [hstep] at hfrom hnewest ⊢
      refine ⟨fun b hb => ?_, fun q hq => ?_⟩
      · obtain hb | ⟨hb, hkind⟩ := hfrom b hb
        · exact .inl hb
        · exact .inr ⟨List.mem_cons_of_mem _ hb, hkind⟩
      · obtain hq | ⟨hq, hkind⟩ := hq
        · exact hnewest q (.inl hq)
        · obtain rfl | hq := List.mem_cons.mp hq
          · obtain ⟨b, hb, hle⟩ := hold hkind
            obtain ⟨c, hc, hle'⟩ := hnewest b (.inl hb)
            exact ⟨c, hc, Nat.le_trans hle hle'⟩
          · exact hnewest q (.inr ⟨hq, hkind⟩)
    · rw [hstep] at hfrom hnewest ⊢
      obtain ⟨c, hc, hle⟩ := hnewest a (.inl rfl)
      refine ⟨fun b hb => ?_, fun q hq => ?_⟩
      · obtain hb | ⟨hb, hkind⟩ := hfrom b hb
        · cases hb
          exact .inr ⟨List.mem_cons_self .., hkind⟩
        · exact .inr ⟨List.mem_cons_of_mem _ hb, hkind⟩
      · obtain hq | ⟨hq, hkind⟩ := hq
        · exact ⟨c, hc, Nat.le_trans (hnew q hq) hle⟩
        · obtain rfl | hq := List.mem_cons.mp hq
          · exact ⟨c, hc, hle⟩
          · exact hnewest q (.inr ⟨hq, hkind⟩)

/-- The record that completes a flip is the TABLE_COMMIT record of the highest sequence in the store (R126). -/
theorem Journal.newestCommit_iff {j : Journal} (h : slotsWf j.slots = true) (r : JournalRecord) :
    j.newestCommit = some r
      ↔ j.Holds r ∧ r.kind = .tableCommit ∧ ∀ q, j.Holds q → q.kind = .tableCommit → q.sequence ≤ r.sequence := by
  obtain ⟨hfrom, hnewest⟩ := foldl_newerCommit (j.slots.filterMap soundRecord) none
  simp only [reduceCtorEq, false_or, Journal.mem_records_iff h, and_imp] at hfrom hnewest
  rw [Journal.newestCommit_eq]
  constructor
  · intro hr
    obtain ⟨hholds, hkind⟩ := hfrom r hr
    refine ⟨hholds, hkind, fun q hq hqkind => ?_⟩
    obtain ⟨b, hb, hle⟩ := hnewest q hq hqkind
    cases hr.symm.trans hb
    exact hle
  · rintro ⟨hholds, hkind, hmax⟩
    obtain ⟨b, hb, hle⟩ := hnewest r hholds hkind
    obtain ⟨hbholds, hbkind⟩ := hfrom b hb
    rw [hb, hbholds.unique hholds (Nat.le_antisymm (hmax b hbholds hbkind) hle)]

/-! ### The flip completed and the live set checked (R126) -/

section
variable {t : TableStore}

theorem TableStore.completeFlip_of_disagreeing {r : JournalRecord} (h : ¬(t.live = BankName.ofCode r.aux0 ∧ t.basis = r.item)) :
    t.completeFlip (some r)
      = { t with live := BankName.ofCode r.aux0, basis := r.item, valid := true, standby := Vector.replicate 8 Standby.empty } :=
  if_pos (by rwa [ne_eq, ne_eq, ← not_and_or])

theorem TableStore.completeFlip_of_agreeing {newest : Option JournalRecord}
    (h : ∀ r, newest = some r → t.live = BankName.ofCode r.aux0 ∧ t.basis = r.item) : t.completeFlip newest = t := by
  cases newest with
  | none => rfl
  | some r =>
    obtain ⟨hlive, hbasis⟩ := h r rfl
    exact if_neg (by simp [hlive, hbasis])

theorem TableStore.completeFlip_banks (newest : Option JournalRecord) :
    (t.completeFlip newest).bankA = t.bankA ∧ (t.completeFlip newest).bankB = t.bankB := by
  unfold TableStore.completeFlip
  split
  · split <;> exact ⟨rfl, rfl⟩
  · exact ⟨rfl, rfl⟩

theorem TableId.mem_all (n : TableId) : n ∈ TableId.all := by cases n <;> decide

theorem Bank.intact_iff (b : Bank) : b.intact = true ↔ ∀ n : TableId, b.tables.crc n = b.crcs[n.index] := by
  simp only [Bank.intact, List.all_eq_true, beq_iff_eq, TableId.mem_all, true_implies]

theorem TableStore.checkLive_valid_iff (t : TableStore) :
    t.checkLive.valid = true ↔ t.valid = true ∧ ∀ n : TableId, (t.bank t.live).tables.crc n = (t.bank t.live).crcs[n.index] := by
  rw [← Bank.intact_iff]
  exact Bool.and_eq_true_iff

end

theorem exec_recoveryComplete {s : State} (hlife : s.life = .on) (hphase : s.phase = .recovery) :
    exec .recoveryComplete s = .next (settle s s.recovered) :=
  congrArg (finish s) (if_pos (by simp [hlife, hphase]))

theorem State.recovered_tables (s : State) :
    s.recovered.tables = (s.tables.completeFlip s.journal.recover.newestCommit).checkLive := rfl

theorem State.recovered_journal (s : State) : s.recovered.journal = { s.journal.recover with writer := .replaying } := rfl

/-- Settles O52: the store, the figures and the pages by what recovery derives, the tables by the newest TABLE_COMMIT record. -/
theorem recoveryDerivesTheJournal : Obligations.RecoveryDerivesTheJournal := by
  intro s hlife hphase h marked belongs
  have hwf := s.journal.slotsWf_recover h
  refine ⟨_, exec_recoveryComplete hlife hphase, ?_⟩
  obtain ⟨hbankA, hbankB⟩ := s.tables.completeFlip_banks s.journal.recover.newestCommit
  rw [settle_phase, settle_journal, settle_loans, settle_tables, State.recovered_tables, State.recovered_journal,
    settle_clock, settle_channels, settle_config, settle_sessions, settle_latched]
  refine ⟨rfl, rfl, rfl, rfl, rfl, rfl, rfl, Journal.findSlot_recover_record h, Journal.findSlot_recover_torn h,
    fun n r hr => Journal.recover_lastComplete_ge h (Journal.holds_recover h hr), ?_, fun p hp => ?_, s.journal.mem_recover_eraseQueue,
    s.journal.recover_eraseQueue_pairwise, Journal.recover_tornMark_iff h, s.journal.recover_erasedAgainMark_iff, ?_, hbankA, hbankB,
    rfl, rfl, rfl, rfl, rfl⟩
  · obtain hzero | ⟨r, ⟨-, hfind⟩, hlast⟩ := Journal.recover_lastComplete_attained h
    · exact .inl hzero
    · exact .inr ⟨_, r, hfind, hlast⟩
  · have hpage := s.journal.recover_page hp
    have hcases := derivedPage_cases (pageRecords_length hwf s.journal.recover_sound p) (Journal.recover_holdsLast_iff h p)
      (Journal.recover_released_iff h p s.journal.released)
    rw [← hpage] at hcases
    exact hcases
  · intro newest agrees intact
    have hnewest : ∀ r, s.journal.recover.newestCommit = some r ↔ newest r := Journal.newestCommit_iff hwf
    have hvalid : (s.tables.completeFlip s.journal.recover.newestCommit).checkLive.valid = true
        ↔ (s.tables.completeFlip s.journal.recover.newestCommit).valid = true ∧ intact := TableStore.checkLive_valid_iff _
    refine ⟨fun r hr hdisagrees => ?_, fun hagrees => ?_⟩
    · rw [(hnewest r).mpr hr, TableStore.completeFlip_of_disagreeing hdisagrees] at hvalid ⊢
      refine ⟨rfl, rfl, fun n => ?_, hvalid.trans (and_iff_right rfl)⟩
      simp [TableStore.standbyOf, TableStore.checkLive]
    · have hkept := TableStore.completeFlip_of_agreeing fun r hr => hagrees r ((hnewest r).mp hr)
      rw [hkept] at hvalid ⊢
      exact ⟨rfl, rfl, rfl, hvalid⟩

end Sys2Proof.Machine
end

section
/-! SUPPORT. Conditions and notices (R132, R177, R187, R190): the conditions as a list, a notice begun, and the cause of each condition. -/

namespace Sys2Proof.Machine

open Config

theorem Condition.mem_all (c : Condition) : c ∈ Condition.all := by
  cases c with
  | wandFault i => fin_cases i <;> decide
  | _ => decide

/-- DESK_ATTN looks at every condition (R190). -/
theorem State.deskAttn_iff (s : State) :
    s.deskAttn = true ↔ s.running = true ∧ ∃ c, s.active c = true ∧ s.config.deskMask.getLsbD c.bit = true := by
  simp only [State.deskAttn, Bool.and_eq_true, List.any_eq_true, Condition.mem_all, true_and]

/-! ### A notice begun (R177) -/

theorem activated_iff (s t : State) :
    activated s t = true ↔ ∃ c, t.active c = true ∧ s.active c = false ∧ t.config.noticeMask.getLsbD c.bit = true := by
  simp only [activated, List.any_eq_true, Condition.mem_all, true_and, Bool.and_eq_true, Bool.not_eq_true', and_assoc]

theorem settle_of_begins {s t : State} (hrun : t.running = true) (h : activated s t = true) :
    settle s t = { t with link := t.link.addNotice } := by
  simp only [settle, hrun, h, Bool.and_self, if_true]

theorem settle_of_not_begins {s t : State} (h : ¬(t.running = true ∧ activated s t = true)) : settle s t = t :=
  if_neg (mt Bool.and_eq_true_iff.mp h)

theorem Link.addNotice_of_present {l : Link} (h : l.noticePresent = true) : l.addNotice = l := if_pos h

theorem Link.addNotice_of_absent {l : Link} (h : l.noticePresent = false) : l.addNotice = { l with tx := l.tx ++ [.notice] } :=
  if_neg (by simp [h])

/-! ### The cause of each condition (R132, R187) -/

theorem State.journalDerived_iff (s : State) :
    s.journalDerived = true ↔ (s.life = .on ∨ s.life = .waitReset ∨ s.life = .waitRestart) ∧ s.phase ≠ .recovery := by
  have hrun : s.running = true ↔ s.life = .on ∨ s.life = .waitReset ∨ s.life = .waitRestart := by
    cases h : s.life <;> simp [State.running, h]
  rw [State.journalDerived, Bool.and_eq_true, hrun, bne_iff_ne]

theorem State.active_of_off {s : State} (h : s.life = .off) (c : Condition) : s.active c = false := by
  simp [State.active, h]

/-- Settles O50: DESK_ATTN and a notice by the list of all conditions, and each condition by its cause. -/
theorem deskAttnAndNotices : Obligations.DeskAttnAndNotices := by
  refine ⟨State.deskAttn_iff, fun s t => ?_, fun s => ?_⟩
  · rw [← activated_iff]
    refine ⟨fun ⟨hrun, h⟩ habsent => ?_, fun ⟨hrun, h⟩ hpresent => ?_, settle_of_not_begins⟩
    · rw [settle_of_begins hrun h, Link.addNotice_of_absent habsent]
    · rw [settle_of_begins hrun h, Link.addNotice_of_present hpresent]
  · refine ⟨State.active_of_off, fun hlife => ?_⟩
    rw [← State.journalDerived_iff]
    simp only [State.active, bne_iff_ne.mpr hlife, Bool.true_and, Bool.and_eq_true, Bool.or_eq_true, Bool.not_eq_true', decide_eq_true_eq,
      beq_iff_eq, Latched.has, Journal.exhausted, true_and, implies_true, and_true]
    exact ⟨Iff.rfl, Iff.rfl, Iff.rfl⟩

end Sys2Proof.Machine
end

section
/-! SUPPORT. An erase from its start to its end (R140, R143, R154). -/

namespace Sys2Proof.Machine

open Config

theorem exec_eraseStart_of_on {s : State} (hlife : s.life = .on) (hphase : s.phase ≠ .recovery) :
    exec .eraseStart s = .next (settle s { s with journal := s.journal.startErase }) :=
  congrArg (finish s) (if_pos (by simp [hlife, hphase]))

theorem exec_eraseComplete_of_on {s : State} (hlife : s.life = .on) : exec .eraseComplete s = .next (settle s s.eraseDone) := by
  have hdone : (if s.running then s.eraseDone else s) = s.eraseDone := if_pos (by simp [State.running, hlife])
  exact (congrArg (finishStore s) hdone).trans (finishStore_of_not_waiting (by simp [State.eraseDone, hlife]))

section
variable {j : Journal} {p : Nat}

theorem Journal.page_setPage_self (j : Journal) (hp : p < 128) (st : PageState) : (j.setPage p st).page p = st := by
  simp [Journal.page, Journal.setPage, hp]

theorem Journal.page_setPage_of_ne (j : Journal) {q : Nat} (h : q ≠ p) (st : PageState) : (j.setPage p st).page q = j.page q := by
  simp [Journal.page, Journal.setPage, Ne.symm h]

theorem Journal.startErase_of_front {rest : List Nat} (hmarker : j.eraseMarker = none) (hqueue : j.eraseQueue = p :: rest) :
    j.startErase = { j.setPage p .erasing with eraseMarker := some p, eraseQueue := rest } := by
  simp only [Journal.startErase, hmarker, hqueue]

theorem Journal.endErase_of_marker (h : j.eraseMarker = some p) :
    j.endErase = { j.setPage p .erased with slots := blankPage p j.slots, eraseMarker := none } := by
  simp only [Journal.endErase, h]

/-- An erase ends in phase 1 as it does later, and phase 1 remembers it (R143, R154). -/
theorem State.eraseDone_journal {s : State} (h : s.journal.eraseMarker = some p) :
    s.eraseDone.journal = { s.journal.endErase with reErased := s.journal.reErased || decide (s.phase = .recovery) } := by
  by_cases hphase : s.phase = .recovery
  · simp [State.eraseDone, hphase, Journal.endReErase, h]
  · simp [State.eraseDone, hphase, Journal.endErase_of_marker h, Journal.setPage]

end

/-- Settles O28: the start by what stands at the front of the queue, the end by the page that the marker names. -/
theorem eraseBlanksOnePage : Obligations.EraseBlanksOnePage := by
  intro s p hlife hp
  refine ⟨fun rest hphase hmarker hqueue => ?_, fun hmarker => ⟨_, exec_eraseComplete_of_on hlife, ?_⟩⟩
  · rw [exec_eraseStart_of_on hlife hphase, Journal.startErase_of_front hmarker hqueue]
    rfl
  · rw [settle_journal, State.eraseDone_journal hmarker, Journal.endErase_of_marker hmarker]
    exact ⟨rfl, s.journal.page_setPage_self hp .erased, fun _ => findSlot_blankPage_inside _, fun _ => findSlot_blankPage_outside _,
      fun _ hq => s.journal.page_setPage_of_ne hq .erased, rfl, rfl, rfl, rfl, rfl⟩

end Sys2Proof.Machine
end

section
/-! SUPPORT. The Journal but for its requests and its writer: most of what a command does leaves it as it is (R133, R136), and no command takes the
released-through sequence back (R139). -/

namespace Sys2Proof.Machine

open Config

/-- The Journal with no turn asked for and nothing being written: its store, its figures, its pages and its marks. -/
def Journal.atRest (j : Journal) : Journal := { j with requests := [], writer := .idle }

theorem Journal.released_eq_of_atRest {j k : Journal} (h : j.atRest = k.atRest) : j.released = k.released :=
  (congrArg Journal.released h :)

theorem Journal.released_le_of_atRest {j k : Journal} (h : k.atRest = j.atRest) : j.released ≤ k.released :=
  (Journal.released_eq_of_atRest h).ge

@[simp] theorem Journal.atRest_withRequests (j : Journal) (rs : List Requester) :
    ({ j with requests := rs } : Journal).atRest = j.atRest := rfl
@[simp] theorem Journal.atRest_withWriter (j : Journal) (w : Writer) : ({ j with writer := w } : Journal).atRest = j.atRest := rfl

/-- Two journals that agree at rest differ in their requests and their writers alone. -/
theorem Journal.eq_of_atRest {j k : Journal} (h : j.atRest = k.atRest) : j = { k with requests := j.requests, writer := j.writer } :=
  congrArg (fun m : Journal => { m with requests := j.requests, writer := j.writer }) h

/-! ### Operations that reach the requests and the writer alone -/

section
variable (s : State) (i : Station)

@[simp] theorem State.endWait_atRest : (s.endWait i).journal.atRest = s.journal.atRest := rfl
@[simp] theorem State.settleSlip_atRest (o : SlipOutcome) : (s.settleSlip i o).journal.atRest = s.journal.atRest := rfl
@[simp] theorem State.sendToEngine_atRest (scan : ScanRecord) (task : Task) (cls : RequestClass) :
    (s.sendToEngine i scan task cls).journal.atRest = s.journal.atRest := rfl

/-! #### Closing a session and changing a mode (R25, R43 to R46) -/

@[simp] theorem State.slipSettled_atRest (slip : Slip) (o : SlipOutcome) :
    (s.slipSettled i slip o).journal.atRest = s.journal.atRest := by
  unfold State.slipSettled
  split <;> rfl

@[simp] theorem State.offer_atRest (slip : Slip) : (s.offer i slip).journal.atRest = s.journal.atRest := by
  unfold State.offer
  split
  · simp
  · split <;> simp

@[simp] theorem State.beginClose_atRest (shown : Option OutcomeKind) : (s.beginClose i shown).journal.atRest = s.journal.atRest := by
  unfold State.beginClose
  cases shown <;> (dsimp only; split <;> simp)

@[simp] theorem State.closeFromOutside_atRest : (s.closeFromOutside i).journal.atRest = s.journal.atRest := by
  unfold State.closeFromOutside
  split <;> simp

@[simp] theorem State.modeChanged_atRest (before : Mode) : (s.modeChanged i before).journal.atRest = s.journal.atRest := by
  unfold State.modeChanged
  repeat' split
  all_goals simp

@[simp] theorem State.setMode_atRest (m : Mode) : (s.setMode i m).journal.atRest = s.journal.atRest :=
  State.modeChanged_atRest ..

@[simp] theorem State.dropWaiting_atRest (slip : Slip) : (s.dropWaiting i slip).journal.atRest = s.journal.atRest := by
  simp [State.dropWaiting]

@[simp] theorem State.takeWaiting_atRest (slip : Slip) : (s.takeWaiting i slip).journal.atRest = s.journal.atRest := by
  simp [State.takeWaiting]

/-! #### The arbiter's grant (R28 to R42) -/

@[simp] theorem State.command_atRest (n : Nat) : (s.command i n).journal.atRest = s.journal.atRest := by
  unfold State.command
  split
  · split <;> simp
  all_goals simp

@[simp] theorem State.commandCard_atRest (n : Nat) : (s.commandCard i n).journal.atRest = s.journal.atRest := by
  unfold State.commandCard
  split <;> simp

@[simp] theorem State.grantIdle_atRest (scan : ScanRecord) : (s.grantIdle i scan).journal.atRest = s.journal.atRest := by
  unfold State.grantIdle
  repeat' split
  all_goals simp

@[simp] theorem State.grantOpen_atRest (scan : ScanRecord) : (s.grantOpen i scan).journal.atRest = s.journal.atRest := by
  unfold State.grantOpen
  repeat' split
  all_goals simp

@[simp] theorem State.grant_atRest : s.grant.journal.atRest = s.journal.atRest := by
  unfold State.grant
  split
  · split
    · rfl
    · split
      · rfl
      · dsimp only
        split
        · exact State.grantIdle_atRest ..
        · exact State.grantOpen_atRest ..
        · rfl
  · rfl

/-! #### Decisions and turns (R50, R133 to R136) -/

@[simp] theorem State.offerHold_atRest (slip : Option Slip) : (s.offerHold i slip).journal.atRest = s.journal.atRest := by
  unfold State.offerHold
  repeat' split
  all_goals simp

@[simp] theorem State.closeAfter_atRest (opened : Bool) : (s.closeAfter i opened).journal.atRest = s.journal.atRest := by
  by_cases h : s.ClosesAfter i opened
  · rw [State.closeAfter_of_closes h, State.beginClose_atRest]
  · rw [State.closeAfter_of_stays h]

@[simp] theorem State.applyVerdict_atRest (d : Decision) (v : Verdict) (sequence : Nat) :
    (s.applyVerdict d v sequence).journal.atRest = s.journal.atRest := by
  simp [State.applyVerdict]

@[simp] theorem State.serveEngine_atRest (recorded : Bool) : (s.serveEngine recorded).journal.atRest = s.journal.atRest := by
  unfold State.serveEngine
  split
  · rfl
  · dsimp only
    split
    · rfl
    · exact State.applyVerdict_atRest ..

@[simp] theorem State.serveClock_atRest : s.serveClock.journal.atRest = s.journal.atRest := by
  unfold State.serveClock
  repeat' split
  all_goals rfl

@[simp] theorem State.serveRecorded_atRest (r : Requester) : (s.serveRecorded r).journal.atRest = s.journal.atRest := by
  cases r with
  | engine => exact State.serveEngine_atRest ..
  | patch =>
    simp only [State.serveRecorded]
    split <;> rfl
  | clock => exact State.serveClock_atRest s
  | commit | close | restart => rfl

@[simp] theorem State.turn_atRest : s.turn.journal.atRest = s.journal.atRest := by
  unfold State.turn
  repeat' split
  all_goals simp

@[simp] theorem State.ownerEffects_atRest (r : JournalRecord) (o : Requester) :
    (s.ownerEffects r o).journal.atRest = s.journal.atRest := by
  cases o with
  | engine =>
    simp only [State.ownerEffects]
    split <;> simp
  | clock => exact congrArg Journal.atRest (State.setClock_journal s)
  | close i => exact congrArg Journal.atRest (State.discardScans_journal ..)
  | patch | commit | restart => rfl

theorem State.endReplay_atRest : s.endReplay.journal.atRest = s.journal.atRest := by
  unfold State.endReplay
  dsimp only
  repeat' split
  all_goals rfl

/-! #### Tables, configuration and start (R112, R184, R192) -/

theorem State.endValidation_atRest : s.endValidation.journal.atRest = s.journal.atRest := by
  unfold State.endValidation
  split <;> rfl

theorem State.resetReleased_atRest : s.resetReleased.journal.atRest = s.journal.atRest := by
  unfold State.resetReleased
  dsimp only
  split <;> rfl

theorem State.stationStored_atRest (old : State) : (State.stationStored old s i).journal.atRest = s.journal.atRest := by
  unfold State.stationStored State.lineChanged
  rw [State.modeChanged_atRest]
  split <;> simp

@[simp] theorem State.configureDone_atRest (c : ConfigRecord) : (s.configureDone c).journal.atRest = s.journal.atRest := by
  have hrate : ∀ t : State, t.rateStored.journal = t.journal := fun t => by
    unfold State.rateStored
    split <;> rfl
  unfold State.configureDone
  rw [hrate]
  refine List.foldlRecOn (motive := fun t : State => t.journal.atRest = s.journal.atRest) _ _ rfl fun t ht i _ => ?_
  exact (State.stationStored_atRest t i s).trans ht

end

/-! ### Operations that change the store keep R, or raise it (R139, R149) -/

section
variable (s : State)

theorem Journal.releaseThrough_released (j : Journal) (r : Nat) : (j.releaseThrough r).released = max j.released r := by
  unfold Journal.releaseThrough
  split <;> simp <;> omega

theorem Journal.cut_released (j : Journal) (left : SlotCut) : (j.cut left).released = j.released := by
  unfold Journal.cut
  repeat' split
  all_goals rfl

theorem Journal.startErase_released (j : Journal) : j.startErase.released = j.released := by
  unfold Journal.startErase
  split <;> rfl

theorem Journal.endErase_released (j : Journal) : j.endErase.released = j.released := by
  unfold Journal.endErase
  split <;> rfl

theorem State.eraseDone_released : s.eraseDone.journal.released = s.journal.released := by
  unfold State.eraseDone
  dsimp only
  split <;> exact Journal.endErase_released _

theorem State.completeWrite_released : s.completeWrite.journal.released = s.journal.released := by
  unfold State.completeWrite
  split
  · rw [Journal.released_eq_of_atRest (State.ownerEffects_atRest ..)]
    exact Journal.complete_released ..
  · rfl

theorem State.restartNow_released : s.restartNow.journal.released = s.journal.released := by
  obtain e | ⟨e, -⟩ := State.restartNow_cases s <;> rw [e]
  rfl

theorem State.enterReset_released : s.enterReset.journal.released = s.journal.released := by
  have hrepaired : s.repaired.journal.released = s.journal.released := by
    unfold State.repaired
    split <;> rfl
  obtain e | ⟨e, -⟩ | ⟨e, -⟩ := State.enterReset_cases s <;> rw [e]
  · exact hrepaired
  · exact hrepaired

theorem State.losePower_released (left : SlotCut) (stored : Bool) :
    (s.losePower left stored).journal.released = s.journal.released := by
  unfold State.losePower
  split
  · rfl
  · exact Journal.cut_released ..

/-! ### Requests and the link (R173 to R182) -/

theorem State.answerStationControl_atRest (station action mode : Byte) :
    (s.answerStationControl station action mode).state.journal.atRest = s.journal.atRest := by
  unfold State.answerStationControl
  repeat' split
  all_goals simp [State.done, State.deny]

theorem State.answerPrinter_journal (action : Nat) : (s.answerPrinter action).state.journal = s.journal := by
  unfold State.answerPrinter
  split
  · rfl
  · split
    · exact State.resumePrinter_journal s
    · rfl
  · rfl
  · exact State.reprint_journal s
  · rfl

theorem State.answerClear_journal (mask : BitVec 32) : (s.answerClear mask).state.journal = s.journal := by
  unfold State.answerClear
  split
  · rfl
  · exact State.clearConditions_journal s mask

/-- Only Journal Release reaches R, and it raises it (R149). -/
theorem State.serve_released_le (r : Request) : s.journal.released ≤ (s.serve r).state.journal.released := by
  cases r with
  | journalRelease through =>
    exact (Nat.le_max_left ..).trans_eq (Journal.releaseThrough_released ..).symm
  | stationControl => exact Journal.released_le_of_atRest (State.answerStationControl_atRest ..)
  | printerControl => exact (congrArg Journal.released (State.answerPrinter_journal s _)).ge
  | clearConditions => exact (congrArg Journal.released (State.answerClear_journal s _)).ge
  | readEntry => rw [State.serve, State.answerReadEntry_state]
  | access | leave | configureRead | journalRead | setCodes | setCodesEmpty | restart => exact Nat.le_refl _
  | statusRead =>
    simp only [State.serve, State.statusRead]
    split <;> exact Nat.le_refl _
  | clockSet | clockAdjust | configure =>
    simp only [State.serve, State.answerClockSet, State.answerClockAdjust, State.answerConfigure]
    repeat' split
    all_goals exact Nat.le_refl _
  | beginTable | loadEntries | endTable | abortLoad =>
    simp only [State.serve, State.answerBeginTable, State.answerLoadEntries, State.answerEndTable, State.answerAbortLoad]
    repeat' split
    all_goals exact Nat.le_refl _
  | copyTable | commitSet | patchBorrower | patchItem | setProtection =>
    simp only [State.serve, State.answerCopyTable, State.answerCommitSet, State.answerPatch, State.answerSetProtection]
    repeat' split
    all_goals exact Nat.le_refl _

theorem State.takeFrame_released_le (type : Nat) (p : Parsed) : s.journal.released ≤ (s.takeFrame type p).journal.released := by
  obtain e | ⟨e, -⟩ | ⟨e, -⟩ := State.takeFrame_cases s type p <;> rw [e]
  · rw [State.countLinkError_journal]
  · obtain ⟨st, ea⟩ | ⟨r, -, -, ea⟩ := State.answer_cases s type p <;> rw [ea]
    · exact Nat.le_refl _
    · exact State.serve_released_le s r

theorem State.linkCharacter_released_le (b : Byte) (stop : Bool) :
    s.journal.released ≤ (s.linkCharacter b stop).journal.released := by
  obtain e | e | ⟨e, -⟩ | ⟨e, -⟩ | ⟨type, payload, -, e⟩ := State.linkCharacter_cases s b stop <;> rw [e]
  · rw [State.countLinkError_journal]
  · exact State.takeFrame_released_le { s with link := (s.link.receive b).1 } _ _

theorem State.afterFrame_released (item : TxItem) : (s.afterFrame item).journal.released = s.journal.released := by
  unfold State.afterFrame
  split
  · rfl
  · split
    · rfl
    · unfold State.restartSent
      split
      · exact State.restartNow_released _
      · rfl
    · rw [State.configureSent_journal]

theorem State.frameSent_released : s.frameSent.journal.released = s.journal.released := by
  unfold State.frameSent
  split
  · exact State.afterFrame_released { s with link := { s.link with sending := none } } _
  · rfl

end

/-! ### Every command -/

theorem released_le_of_finish {s t u : State} (h : s.journal.released ≤ u.journal.released) (e : finish s u = .next t) :
    s.journal.released ≤ t.journal.released := by
  rw [finish_next] at e
  cases e
  rwa [settle_journal]

theorem released_le_of_finishStore {s t u : State} (h : s.journal.released ≤ u.journal.released) (e : finishStore s u = .next t) :
    s.journal.released ≤ t.journal.released := by
  rw [finishStore_next] at e
  cases e
  rwa [settle_journal, State.restartNow_released, settle_journal]

/-- A guarded effect lowers R no more than the effect does. -/
theorem released_le_ite {s u : State} {c : Prop} [Decidable c] (h : s.journal.released ≤ u.journal.released) :
    s.journal.released ≤ (if c then u else s).journal.released := by
  split
  · exact h
  · exact Nat.le_refl _

/-- Settles O29: of all that a command does only a release reaches R, and it raises it. -/
theorem releasedNeverDecreases : Obligations.ReleasedNeverDecreases := by
  intro c s t e
  have hjournal : ∀ {u : State}, u.journal = s.journal → s.journal.released ≤ u.journal.released := fun h =>
    (congrArg Journal.released h).ge
  cases c with
  | wandCharacterComplete i => exact released_le_of_finish (released_le_ite (hjournal (State.wandComplete_journal ..))) e
  | assemblerStep i => exact released_le_of_finish (released_le_ite (hjournal (State.assemblerStep_journal ..))) e
  | gapTimerExpiry i => exact released_le_of_finish (released_le_ite (hjournal (State.fragment_journal ..))) e
  | selectorChange i level =>
    exact released_le_of_finish (released_le_ite (s := s.selectorPin i level) (u := (s.selectorPin i level).selectorMoved i level)
      (Journal.released_le_of_atRest (State.modeChanged_atRest ..))) e
  | arbiterGrant => exact released_le_of_finish (Journal.released_le_of_atRest (State.grant_atRest s)) e
  | idleTimerExpiry i => exact released_le_of_finish (released_le_ite (Journal.released_le_of_atRest (State.beginClose_atRest ..))) e
  | slipWaitExpiry i =>
    refine released_le_of_finish ?_ e
    split
    · exact Journal.released_le_of_atRest (State.dropWaiting_atRest ..)
    · exact Nat.le_refl _
  | slipReoffer i =>
    refine released_le_of_finish ?_ e
    split
    · exact Journal.released_le_of_atRest (State.takeWaiting_atRest ..)
    · exact Nat.le_refl _
  | journalTurn => exact released_le_of_finish (Journal.released_le_of_atRest (State.turn_atRest s)) e
  | recordWriteCompletion => exact released_le_of_finishStore s.completeWrite_released.ge e
  | replayEnd => exact released_le_of_finish (Journal.released_le_of_atRest (State.endReplay_atRest s)) e
  | eraseStart =>
    exact released_le_of_finish (released_le_ite (u := { s with journal := s.journal.startErase }) (Journal.startErase_released _).ge) e
  | eraseComplete => exact released_le_of_finishStore (released_le_ite s.eraseDone_released.ge) e
  | copyEnd =>
    refine released_le_of_finish ?_ e
    split <;> exact Nat.le_refl _
  | validationEnd => exact released_le_of_finish (released_le_ite (Journal.released_le_of_atRest (State.endValidation_atRest s))) e
  | configureStoreComplete =>
    refine released_le_of_finishStore ?_ e
    split
    · exact Journal.released_le_of_atRest (State.configureDone_atRest ..)
    · exact Nat.le_refl _
  | linkCharacter b stop => exact released_le_of_finish (State.linkCharacter_released_le s b stop) e
  | transmitFrameStart => exact released_le_of_finish (hjournal (State.transmit_journal s)) e
  | transmitFrameEnd => exact released_le_of_finish s.frameSent_released.ge e
  | powerOn => exact released_le_of_finish (released_le_ite (u := s.powerOn) (Nat.le_refl _)) e
  | resetEntered => exact released_le_of_finish s.enterReset_released.ge e
  | resetLineAssert => exact released_le_of_finish (u := s.resetAsserted) (Nat.le_refl _) e
  | resetLineRelease => exact released_le_of_finish (Journal.released_le_of_atRest (State.resetReleased_atRest s)) e
  | recoveryComplete => exact released_le_of_finish (released_le_ite (u := s.recovered) (Nat.le_refl _)) e
  | powerLoss left stored => exact released_le_of_finish (State.losePower_released s left stored).ge e
  | wandCharacterStart | wandWaitMarkEnd | outcomePatternTimer | outcomePatternEnd | staffWindowExpiry | paperOutChange
  | maintenanceChange | timebaseEdge | timebaseLoss | printerByteAccepted | printerReadyChange | printerStallExpiry | linkGapTimeout
  | linkWaitMarkEnd | linkBreak =>
    exact released_le_of_finish (by split <;> exact Nat.le_refl _) e
  | _ => exact released_le_of_finish (State.takeFrame_released_le s _ _) e

end Sys2Proof.Machine
end

section
/-! SUPPORT. The test of a page for release (R139), and a completed record: its slot, its page, the page before it and the figures (R129 to R131,
R136). -/

namespace Sys2Proof.Machine

open Config

section
variable {j : Journal} {p q : Nat}

/-! ### The test of a page (R139) -/

/-- A page's test, with the records it looks at named by their slots (R129, R139). -/
theorem Journal.releasable_iff (h : slotsWf j.slots = true) (p : Nat) :
    j.releasable p = true
      ↔ j.page p = .full ∧ (∀ r, j.Holds r → pageOf r.sequence = p → r.sequence ≤ j.released)
        ∧ (j.lastComplete = 0 ∨ pageOf j.lastComplete ≠ p) := by
  have hlast : j.holdsLast p = false ↔ j.lastComplete = 0 ∨ pageOf j.lastComplete ≠ p := by
    rw [← Bool.not_eq_true, Journal.holdsLast, Bool.and_eq_true, bne_iff_ne, beq_iff_eq, not_and_or, not_not]
    rfl
  simp only [Journal.releasable, Bool.and_eq_true, beq_iff_eq, List.all_eq_true, decide_eq_true_eq, Journal.mem_pageRecords_iff h,
    and_imp, Bool.not_eq_true', hlast, and_assoc]

theorem Journal.lt_of_page_ne (h : j.page p ≠ .erased) : p < 128 := by
  by_contra hp
  exact h (by simp [Journal.page, hp])

theorem Journal.page_of_releasable (h : j.releasable p = true) : j.page p = .full := by
  simp only [Journal.releasable, Bool.and_eq_true, beq_iff_eq] at h
  obtain ⟨⟨hfull, -⟩, -⟩ := h
  exact hfull

theorem Journal.releasePage_of_releasable (h : j.releasable p = true) :
    j.releasePage p = { j.setPage p .released with eraseQueue := j.eraseQueue ++ [p] } := if_pos h

theorem Journal.releasePage_of_not (h : ¬j.releasable p = true) : j.releasePage p = j := if_neg h

theorem Journal.releasePage_page_self (h : j.releasable p = true) : (j.releasePage p).page p = .released := by
  have hp : p < 128 := Journal.lt_of_page_ne (by rw [Journal.page_of_releasable h]; decide)
  rw [Journal.releasePage_of_releasable h]
  exact j.page_setPage_self hp .released

theorem Journal.releasePage_page_of_ne (j : Journal) (h : q ≠ p) : (j.releasePage p).page q = j.page q := by
  obtain e | e := j.releasePage_cases p <;> rw [e]
  exact j.page_setPage_of_ne h .released

end

/-! ### A record written (R130, R136) -/

/-- The page before the head page in the ring. -/
def Journal.pageBefore (j : Journal) : Nat := (j.headPage + 127) % 128

/-- The store with a record in the head slot, before any page changes. -/
def Journal.written (j : Journal) (r : JournalRecord) : Journal :=
  { j with slots := putSlot j.headSlot (.record r) j.slots, lastComplete := r.sequence }

/-- The record to be written is the first of its page, and frees the page before it (R139). -/
def Journal.FreesBefore (j : Journal) : Prop :=
  j.headSlot % 32 = 0 ∧ j.page j.pageBefore = .full ∧ ∀ q, j.Holds q → pageOf q.sequence = j.pageBefore → q.sequence ≤ j.released

section
variable (j : Journal) (r : JournalRecord)

theorem Journal.pageBefore_ne : j.headPage ≠ j.pageBefore := by
  have := j.headPage_lt
  unfold Journal.pageBefore
  omega

variable {j}

theorem Journal.complete_first (h : j.headSlot % 32 = 0) :
    j.complete r = ((j.written r).setPage j.headPage .filling).releasePage j.pageBefore := if_pos h

theorem Journal.complete_last (h : j.headSlot % 32 = 31) : j.complete r = (j.written r).setPage j.headPage .full := by
  have h0 : ¬j.headSlot % 32 = 0 := by omega
  exact (if_neg h0).trans (if_pos h)

theorem Journal.complete_inner (h0 : j.headSlot % 32 ≠ 0) (h31 : j.headSlot % 32 ≠ 31) : j.complete r = j.written r :=
  (if_neg h0).trans (if_neg h31)

variable (j)

theorem Journal.complete_page_head :
    (j.complete r).page j.headPage
      = if j.headSlot % 32 = 0 then .filling else if j.headSlot % 32 = 31 then .full else j.page j.headPage := by
  split
  · next h =>
    rw [Journal.complete_first r h, Journal.releasePage_page_of_ne _ j.pageBefore_ne]
    exact Journal.page_setPage_self _ j.headPage_lt .filling
  · next h0 =>
    split
    · next h31 =>
      rw [Journal.complete_last r h31]
      exact Journal.page_setPage_self _ j.headPage_lt .full
    · next h31 =>
      rw [Journal.complete_inner r h0 h31]
      rfl

theorem Journal.complete_page_elsewhere {q : Nat} (hq : q ≠ j.headPage) (hbefore : q ≠ j.pageBefore) :
    (j.complete r).page q = j.page q := by
  by_cases h0 : j.headSlot % 32 = 0
  · rw [Journal.complete_first r h0, Journal.releasePage_page_of_ne _ hbefore]
    exact Journal.page_setPage_of_ne _ hq .filling
  · by_cases h31 : j.headSlot % 32 = 31
    · rw [Journal.complete_last r h31]
      exact Journal.page_setPage_of_ne _ hq .full
    · rw [Journal.complete_inner r h0 h31]
      rfl

variable {j r}

theorem Journal.record?_of_findSlot (h : findSlot j.slots (slotOf r.sequence) = some (.record r)) : j.record? r.sequence = some r := by
  simp [Journal.record?, h]

section
variable (hnext : r.sequence = j.lastComplete + 1)
include hnext

theorem Journal.slotOf_next : slotOf r.sequence = j.headSlot := by
  rw [hnext]
  rfl

theorem Journal.pageOf_next : pageOf r.sequence = j.headPage := by
  rw [hnext]
  rfl

theorem Journal.complete_record? : (j.complete r).record? r.sequence = some r := by
  refine Journal.record?_of_findSlot ?_
  rw [Journal.complete_slots, Journal.slotOf_next hnext, findSlot_putSlot_self]

end

/-- The new record is of no other page than its own. -/
theorem Journal.written_holds_iff {q : JournalRecord} (hq : pageOf q.sequence ≠ j.headPage) : (j.written r).Holds q ↔ j.Holds q := by
  have hslot : (q.sequence - 1) % 4096 ≠ j.headSlot := fun e => hq (congrArg (· / 32) e)
  unfold Journal.Holds Journal.written
  rw [findSlot_putSlot_of_ne _ _ hslot]

section
variable (hnext : r.sequence = j.lastComplete + 1) (hwf : slotsWf j.slots = true)
include hnext hwf

/-- With the first record of a page, the page before it passes its test exactly when it is freed (R139). -/
theorem Journal.releasable_before_iff (h0 : j.headSlot % 32 = 0) :
    ((j.written r).setPage j.headPage .filling).releasable j.pageBefore = true ↔ j.FreesBefore := by
  have hpage : ((j.written r).setPage j.headPage .filling).page j.pageBefore = j.page j.pageBefore :=
    Journal.page_setPage_of_ne _ j.pageBefore_ne.symm .filling
  have hlast : pageOf r.sequence ≠ j.pageBefore := by
    rw [Journal.pageOf_next hnext]
    exact j.pageBefore_ne
  have hholds : ∀ q, pageOf q.sequence = j.pageBefore →
      (((j.written r).setPage j.headPage .filling).Holds q ↔ j.Holds q) := fun q hq =>
    Journal.written_holds_iff (hq ▸ j.pageBefore_ne.symm)
  rw [Journal.releasable_iff (slotsWf_putSlot (headSlot_lt j) _ hwf), hpage]
  constructor
  · rintro ⟨hfull, hall, -⟩
    exact ⟨h0, hfull, fun q hq hp => hall q ((hholds q hp).mpr hq) hp⟩
  · rintro ⟨-, hfull, hall⟩
    exact ⟨hfull, fun q hq hp => hall q ((hholds q hp).mp hq) hp, .inr hlast⟩

theorem Journal.complete_of_frees (h : j.FreesBefore) :
    (j.complete r).page j.pageBefore = .released ∧ (j.complete r).eraseQueue = j.eraseQueue ++ [j.pageBefore] := by
  have h0 : j.headSlot % 32 = 0 := h.1
  have hpasses := (Journal.releasable_before_iff hnext hwf h0).mpr h
  rw [Journal.complete_first r h0]
  refine ⟨Journal.releasePage_page_self hpasses, ?_⟩
  rw [Journal.releasePage_of_releasable hpasses]
  rfl

theorem Journal.complete_of_not_frees (h : ¬j.FreesBefore) :
    (∀ q, q ≠ j.headPage → (j.complete r).page q = j.page q) ∧ (j.complete r).eraseQueue = j.eraseQueue := by
  by_cases h0 : j.headSlot % 32 = 0
  · rw [Journal.complete_first r h0, Journal.releasePage_of_not (mt (Journal.releasable_before_iff hnext hwf h0).mp h)]
    exact ⟨fun q hq => Journal.page_setPage_of_ne _ hq .filling, rfl⟩
  · by_cases h31 : j.headSlot % 32 = 31
    · rw [Journal.complete_last r h31]
      exact ⟨fun q hq => Journal.page_setPage_of_ne _ hq .full, rfl⟩
    · rw [Journal.complete_inner r h0 h31]
      exact ⟨fun _ _ => rfl, rfl⟩

end

end

/-! ### The used slots (R131) -/

/-- A blank slot written adds one entry to the store. -/
theorem putSlot_perm {l : List (Nat × Slot)} {n : Nat} (h : findSlot l n = none) (v : Slot) : (putSlot n v l).Perm ((n, v) :: l) := by
  induction l with
  | nil => exact .refl _
  | cons e rest ih =>
    rw [findSlot_cons] at h
    split at h
    · cases h
    · next hne =>
      simp only [putSlot, if_neg (Ne.symm hne)]
      split
      · exact .refl _
      · exact ((ih h).cons e).trans (.swap ..)

theorem Journal.complete_used {j : Journal} {r : JournalRecord} (hnext : r.sequence = j.lastComplete + 1)
    (hwf : slotsWf j.slots = true) (hfrees : ¬j.FreesBefore) (hblank : findSlot j.slots j.headSlot = none)
    (hwritable : j.page j.headPage = .erased ∨ j.page j.headPage = .filling) : (j.complete r).used = j.used + 1 := by
  obtain ⟨hpages, -⟩ := Journal.complete_of_not_frees hnext hwf hfrees
  have hbefore : (j.page j.headPage).givesFree = false := by obtain h | h := hwritable <;> rw [h] <;> rfl
  have hafter : ((j.complete r).page j.headPage).givesFree = false := by
    rw [Journal.complete_page_head]
    repeat' split
    · rfl
    · rfl
    · exact hbefore
  have hsame : ∀ n, ((j.complete r).page n).givesFree = (j.page n).givesFree := fun n => by
    by_cases hn : n = j.headPage
    · rw [hn, hafter, hbefore]
    · rw [hpages n hn]
  have hhead : (j.page (j.headSlot / pageSlots)).givesFree = false := hbefore
  simp only [Journal.used, hsame, Journal.complete_slots]
  rw [((putSlot_perm hblank _).filter _).length_eq, List.filter_cons_of_pos (by simp [hhead]), List.length_cons]

theorem Journal.free_succ {j k : Journal} (hused : k.used = j.used + 1) (h : 1 ≤ j.free) : k.free + 1 = j.free := by
  unfold Journal.free at *
  omega

/-! ### The completion (R136) -/

theorem exec_recordWriteCompletion_of_on {s : State} {r : JournalRecord} {owner : Requester} (hlife : s.life = .on)
    (h : s.journal.writer = .writing r owner) :
    exec .recordWriteCompletion s = .next (settle s ((s.recordEffects r).ownerEffects r owner)) := by
  have hrun : s.running = true := by simp [State.running, hlife]
  rw [exec_recordWriteCompletion, State.completeWrite_of_writing hrun h]
  exact finishStore_of_not_waiting (by simp [hlife])

/-- Settles O24: the requester's effects reach the Journal's requests and writer alone, and the rest is the record's completion. -/
theorem completedRecordIsReadable : Obligations.CompletedRecordIsReadable := by
  intro s r owner hlife hwriting hnext slot p before releases
  have hstored : ((s.recordEffects r).ownerEffects r owner).journal.atRest = (s.journal.complete r).atRest :=
    State.ownerEffects_atRest ..
  refine ⟨_, exec_recordWriteCompletion_of_on hlife hwriting, ?_⟩
  rw [settle_journal, Journal.eq_of_atRest hstored]
  have hlast : (s.journal.complete r).lastComplete = r.sequence := Journal.complete_lastComplete ..
  refine ⟨hlast, congrArg (· + 1) hlast, Journal.complete_record? hnext, fun n hn => ?_, Journal.complete_page_head ..,
    fun q hq hbefore => Journal.complete_page_elsewhere _ r hq hbefore, fun hwf => ⟨fun hfrees => ?_, fun hfrees => ?_, ?_⟩⟩
  · exact (congrArg (findSlot · n) (Journal.complete_slots ..)).trans (findSlot_putSlot_of_ne _ _ hn)
  · exact Journal.complete_of_frees hnext hwf hfrees
  · obtain ⟨hpages, hqueue⟩ := Journal.complete_of_not_frees hnext hwf hfrees
    exact ⟨hpages _ s.journal.pageBefore_ne.symm, hqueue⟩
  · intro hfrees hblank hwritable
    have hused := Journal.complete_used hnext hwf hfrees hblank hwritable
    exact ⟨hused, Journal.free_succ hused⟩

end Sys2Proof.Machine
end

section
/-! SUPPORT. Journal Read (R147): the records it returns, and their order. -/

namespace Sys2Proof.Machine

open Config

theorem exec_journalRead (start : BitVec 32) (s : State) :
    exec (.journalRead start) s = finish s (s.takeRequest (.journalRead start)) := rfl

theorem exec_journalRelease (through : BitVec 32) (s : State) :
    exec (.journalRelease through) s = finish s (s.takeRequest (.journalRelease through)) := rfl

section
variable {j : Journal} {sequence first n : Nat} {r : JournalRecord}

theorem Journal.record?_eq_some_iff :
    j.record? sequence = some r ↔ r.sequence = sequence ∧ findSlot j.slots (slotOf sequence) = some (.record r) := by
  unfold Journal.record?
  split
  · next q hq =>
    rw [hq, Option.ite_none_right_eq_some, Option.some.injEq, Option.some.injEq, Slot.record.injEq]
    constructor
    · rintro ⟨hs, rfl⟩
      exact ⟨hs, rfl⟩
    · rintro ⟨hs, rfl⟩
      exact ⟨hs, rfl⟩
  · next hnone =>
    refine ⟨fun h => (Option.some_ne_none _ h.symm).elim, fun ⟨_, h⟩ => (hnone r h).elim⟩

theorem Journal.mem_recordsFrom_iff (hfirst : 1 ≤ first) :
    r ∈ j.recordsFrom first n ↔ j.Holds r ∧ first ≤ r.sequence ∧ r.sequence < first + n := by
  simp only [Journal.recordsFrom, List.mem_filterMap, List.mem_range, Journal.record?_eq_some_iff]
  constructor
  · rintro ⟨k, hk, hs, hfind⟩
    rw [← hs] at hfind
    exact ⟨⟨by omega, hfind⟩, by omega, by omega⟩
  · rintro ⟨⟨-, hfind⟩, hlow, hhigh⟩
    have hs : first + (r.sequence - first) = r.sequence := by omega
    exact ⟨r.sequence - first, by omega, hs.symm, by rwa [hs]⟩

theorem Journal.recordsFrom_pairwise (j : Journal) (first n : Nat) :
    (j.recordsFrom first n).Pairwise fun a b => a.sequence < b.sequence := by
  refine List.pairwise_filterMap.mpr (List.pairwise_lt_range.imp fun {k m} hkm a ha b hb => ?_)
  obtain ⟨ha, -⟩ := Journal.record?_eq_some_iff.mp ha
  obtain ⟨hb, -⟩ := Journal.record?_eq_some_iff.mp hb
  omega

/-- A read returns the complete records of at most six sequences, from the greater of what is asked and R + 1 (R147). -/
theorem Journal.mem_readRecords_iff (j : Journal) (asked : Nat) (r : JournalRecord) :
    r ∈ j.readRecords asked
      ↔ j.Holds r ∧ max asked (j.released + 1) ≤ r.sequence ∧ r.sequence ≤ j.lastComplete
        ∧ r.sequence < max asked (j.released + 1) + 6 := by
  have hfirst : 1 ≤ j.readStart asked := Nat.le_trans (Nat.le_add_left ..) (Nat.le_max_right ..)
  rw [Journal.readRecords, Journal.mem_recordsFrom_iff hfirst, Journal.readStart]
  refine and_congr_right fun _ => ⟨?_, ?_⟩
  · rintro ⟨hlow, hhigh⟩
    exact ⟨hlow, by omega, by omega⟩
  · rintro ⟨hlow, hlast, hhigh⟩
    exact ⟨hlow, by omega⟩

end

end Sys2Proof.Machine
end

section
/-! SUPPORT. The pages a release frees (R139, R149, R150), what they give of free slots, and the tail page (R131). -/

namespace Sys2Proof.Machine

open Config

section
variable {j : Journal} {p q : Nat}

/-! ### Several pages tested (R139) -/

/-- The test of one page has no part in another's. -/
theorem Journal.releasable_releasePage_of_ne (j : Journal) (h : q ≠ p) : (j.releasePage p).releasable q = j.releasable q := by
  simp only [Journal.releasable, Journal.holdsLast, Journal.releasePage_page_of_ne j h, Journal.releasePage_slots,
    Journal.releasePage_released, Journal.releasePage_lastComplete]

theorem Journal.releasePage_eraseQueue (j : Journal) (p : Nat) :
    (j.releasePage p).eraseQueue = j.eraseQueue ++ [p].filter j.releasable := by
  by_cases h : j.releasable p = true
  · rw [Journal.releasePage_of_releasable h, List.filter_cons_of_pos h]
    rfl
  · rw [Journal.releasePage_of_not h, List.filter_cons_of_neg h, List.filter_nil, List.append_nil]

/-- Pages tested in an order: those that pass join the erase queue in that order, and become RELEASED. -/
theorem Journal.releaseFold_spec {ps : List Nat} (hps : ps.Nodup) (j : Journal) :
    (ps.foldl Journal.releasePage j).eraseQueue = j.eraseQueue ++ ps.filter j.releasable
      ∧ ∀ q, (ps.foldl Journal.releasePage j).page q = if q ∈ ps.filter j.releasable then .released else j.page q := by
  induction ps generalizing j with
  | nil => simp
  | cons p rest ih =>
    obtain ⟨hp, hrest⟩ := List.nodup_cons.mp hps
    have hne : ∀ q ∈ rest, q ≠ p := fun q hq e => hp (e ▸ hq)
    have hfilter : rest.filter (j.releasePage p).releasable = rest.filter j.releasable :=
      List.filter_congr fun q hq => Journal.releasable_releasePage_of_ne j (hne q hq)
    obtain ⟨hqueue, hpages⟩ := ih hrest (j.releasePage p)
    rw [hfilter] at hqueue hpages
    refine ⟨?_, fun q => ?_⟩
    · rw [List.foldl_cons, hqueue, Journal.releasePage_eraseQueue, List.append_assoc, ← List.filter_append]
      rfl
    · rw [List.foldl_cons, hpages]
      by_cases hq : q = p
      · subst hq
        by_cases hr : j.releasable q = true
        · simp [hr, Journal.releasePage_page_self hr]
        · simp [hr, hp, Journal.releasePage_of_not hr]
      · simp [List.mem_filter, hq, Journal.releasePage_page_of_ne j hq]

theorem Journal.eq_of_pages_and_queue {j k : Journal}
    (h : ∀ v queue, { k with pages := v, eraseQueue := queue } = { j with pages := v, eraseQueue := queue }) :
    k = { j with pages := k.pages, eraseQueue := k.eraseQueue } := h k.pages k.eraseQueue

theorem Journal.releasePages_frame (j : Journal) :
    j.releasePages = { j with pages := j.releasePages.pages, eraseQueue := j.releasePages.eraseQueue } :=
  Journal.eq_of_pages_and_queue fun v queue =>
    Journal.releaseFold (fun k : Journal => { k with pages := v, eraseQueue := queue })
      (fun k p => by obtain e | e := k.releasePage_cases p <;> rw [e]; rfl) _ j

theorem ringFrom_nodup {first : Nat} (h : first < 128) : (ringFrom first).Nodup :=
  (ringFrom_pairwise h).imp (by rintro p _ hlt rfl; exact Nat.lt_irrefl _ hlt)

/-- The pages that a release frees, in ring order from the tail page (R139, R150). -/
def Journal.freedPages (j : Journal) : List Nat := (ringFrom j.tailPage).filter j.releasable

theorem Journal.freedPages_pairwise (j : Journal) :
    j.freedPages.Pairwise fun p q => (p + 128 - j.tailPage) % 128 < (q + 128 - j.tailPage) % 128 :=
  (ringFrom_pairwise j.tailPage_lt).filter _

theorem Journal.freedPages_nodup (j : Journal) : j.freedPages.Nodup := (ringFrom_nodup j.tailPage_lt).filter _

theorem Journal.mem_freedPages_iff (j : Journal) (p : Nat) : p ∈ j.freedPages ↔ p < 128 ∧ j.releasable p = true := by
  rw [Journal.freedPages, List.mem_filter, mem_ringFrom_iff]

theorem Journal.releasePages_eraseQueue (j : Journal) : j.releasePages.eraseQueue = j.eraseQueue ++ j.freedPages := by
  obtain ⟨hqueue, -⟩ := Journal.releaseFold_spec (ringFrom_nodup j.tailPage_lt) j
  exact hqueue

theorem Journal.releasePages_page (j : Journal) (p : Nat) :
    j.releasePages.page p = if p ∈ j.freedPages then .released else j.page p := by
  obtain ⟨-, hpages⟩ := Journal.releaseFold_spec (ringFrom_nodup j.tailPage_lt) j
  exact hpages p

/-! ### The free slots that they give (R131) -/

/-- A page without a blank slot has 32 entries in the store. -/
theorem entries_of_whole_page {l : List (Nat × Slot)} (h : slotsWf l = true) (hwhole : ∀ n, n / 32 = p → findSlot l n ≠ none) :
    (l.filter fun e => e.1 / pageSlots == p).length = 32 := by
  obtain ⟨hrising, -⟩ := (slotsWf_iff l).mp h
  have hnodup : ((l.filter fun e => e.1 / pageSlots == p).map (·.1)).Nodup :=
    (hrising.sublist (List.filter_sublist.map _)).imp Nat.ne_of_lt
  have hnodup' : ((List.range 32).map (32 * p + ·)).Nodup := List.nodup_range.map fun _ _ => Nat.add_left_cancel
  have hperm := (List.perm_ext_iff_of_nodup hnodup hnodup').mpr fun n => by
    simp only [List.mem_map, List.mem_filter, beq_iff_eq, List.mem_range]
    constructor
    · rintro ⟨e, ⟨-, he⟩, rfl⟩
      have he : e.1 / 32 = p := he
      exact ⟨e.1 % 32, by omega, by omega⟩
    · rintro ⟨k, hk, rfl⟩
      have hpage : (32 * p + k) / 32 = p := by omega
      obtain ⟨v, hv⟩ := Option.ne_none_iff_exists'.mp (hwhole _ hpage)
      exact ⟨_, ⟨mem_of_findSlot hv, hpage⟩, rfl⟩
  simpa using hperm.length_eq

theorem entries_of_whole_pages {l : List (Nat × Slot)} (h : slotsWf l = true) {ps : List Nat} (hps : ps.Nodup)
    (hwhole : ∀ p ∈ ps, ∀ n, n / 32 = p → findSlot l n ≠ none) :
    (l.filter fun e => decide (e.1 / pageSlots ∈ ps)).length = 32 * ps.length := by
  induction ps with
  | nil => simp
  | cons p rest ih =>
    obtain ⟨hp, hrest⟩ := List.nodup_cons.mp hps
    obtain ⟨hwhole_p, hwhole_rest⟩ := List.forall_mem_cons.mp hwhole
    rw [List.length_eq_length_filter_add fun e : Nat × Slot => e.1 / pageSlots == p, List.filter_filter, List.filter_filter]
    have hin : (l.filter fun e => (e.1 / pageSlots == p) && decide (e.1 / pageSlots ∈ p :: rest))
        = l.filter fun e => e.1 / pageSlots == p := List.filter_congr fun e _ => by simp +contextual
    have hout : (l.filter fun e => !(e.1 / pageSlots == p) && decide (e.1 / pageSlots ∈ p :: rest))
        = l.filter fun e => decide (e.1 / pageSlots ∈ rest) := List.filter_congr fun e _ => by
      by_cases he : e.1 / pageSlots = p <;> simp [he, hp]
    rw [hin, hout, entries_of_whole_page h hwhole_p, ih hrest hwhole_rest, List.length_cons]
    omega

theorem slots_length_le {l : List (Nat × Slot)} (h : slotsWf l = true) : l.length ≤ 4096 := by
  obtain ⟨hrising, hbound⟩ := (slotsWf_iff l).mp h
  have hsub : l.map (·.1) ⊆ List.range 4096 := fun n hn => by
    obtain ⟨e, he, rfl⟩ := List.mem_map.mp hn
    exact List.mem_range.mpr (hbound e he)
  have hnodup : (l.map (·.1)).Nodup := hrising.imp Nat.ne_of_lt
  simpa using (hnodup.subperm hsub).length_le

theorem Journal.used_le (h : slotsWf j.slots = true) : j.used ≤ 4096 :=
  Nat.le_trans (List.length_filter_le ..) (slots_length_le h)

/-- The used slots are those that stay used and those of the pages freed. -/
theorem Journal.used_releasePages (j : Journal) :
    j.used = (j.slots.filter fun e => decide (e.1 / pageSlots ∈ j.freedPages)).length + j.releasePages.used := by
  unfold Journal.used
  rw [List.length_eq_length_filter_add fun e : Nat × Slot => decide (e.1 / pageSlots ∈ j.freedPages), List.filter_filter,
    List.filter_filter, Journal.releasePages_slots]
  congr 2
  · refine List.filter_congr fun e _ => ?_
    by_cases he : e.1 / pageSlots ∈ j.freedPages
    · obtain ⟨-, hr⟩ := (j.mem_freedPages_iff _).mp he
      simp [he, Journal.page_of_releasable hr, PageState.givesFree]
    · simp [he]
  · refine List.filter_congr fun e _ => ?_
    by_cases he : e.1 / pageSlots ∈ j.freedPages <;> simp [he, Journal.releasePages_page, PageState.givesFree]

theorem Journal.free_releasePages (h : slotsWf j.slots = true)
    (hwhole : ∀ p ∈ j.freedPages, ∀ n, n / 32 = p → findSlot j.slots n ≠ none) :
    j.releasePages.free = j.free + 32 * j.freedPages.length := by
  have hused := j.used_releasePages
  rw [entries_of_whole_pages h j.freedPages_nodup hwhole] at hused
  have hle := Journal.used_le h
  simp only [Journal.free, slotCount]
  omega

/-! ### The tail page (R131) -/

/-- The head page is ERASED or FILLING, and so writable (R135). -/
def Journal.HeadOpen (j : Journal) : Prop := j.page j.headPage = .erased ∨ j.page j.headPage = .filling

theorem Journal.tailPage_of_not_open (h : ¬j.HeadOpen) : j.tailPage = j.headPage := by
  unfold Journal.tailPage
  split
  · next e => exact (h (.inl e)).elim
  · next e => exact (h (.inr e)).elim
  · rfl

theorem Journal.tailPage_of_open (h : j.HeadOpen) :
    j.tailPage = ((ringFrom (j.headPage + 1)).find? fun p => j.page p != .erased).getD j.headPage := by
  unfold Journal.tailPage
  obtain h | h := h <;> rw [h]

theorem Journal.tailPage_of_others_erased (h : j.HeadOpen) (hothers : ∀ p, p < 128 → p ≠ j.headPage → j.page p = .erased) :
    j.tailPage = j.headPage := by
  rw [Journal.tailPage_of_open h]
  cases hfind : (ringFrom (j.headPage + 1)).find? fun p => j.page p != .erased with
  | none => rfl
  | some p =>
    by_contra hne
    have hlt : p < 128 := mem_ringFrom_lt (List.mem_of_find?_eq_some hfind)
    have hpage := List.find?_some hfind
    exact bne_iff_ne.mp hpage (hothers p hlt hne)

theorem Journal.tailPage_of_first (h : j.HeadOpen) {k : Nat} (hpos : 1 ≤ k) (hk : k < 128)
    (hpage : j.page ((j.headPage + k) % 128) ≠ .erased)
    (hbefore : ∀ m, 1 ≤ m → m < k → j.page ((j.headPage + m) % 128) = .erased) : j.tailPage = (j.headPage + k) % 128 := by
  have hat : ∀ m, (j.headPage + 1 + m) % 128 = (j.headPage + (m + 1)) % 128 := fun m => by omega
  have hfirst : (List.range 128).find? (fun m => j.page ((j.headPage + 1 + m) % 128) != .erased) = some (k - 1) := by
    simp only [List.find?_range_eq_some, hat, List.mem_range, bne_iff_ne, Bool.not_eq_true', bne_eq_false_iff_eq]
    rw [Nat.sub_add_cancel hpos]
    exact ⟨hpage, by omega, fun m hm => hbefore (m + 1) (by omega) (by omega)⟩
  have hring : (ringFrom (j.headPage + 1)).find? (fun p => j.page p != .erased)
      = ((List.range 128).find? fun m => j.page ((j.headPage + 1 + m) % 128) != .erased).map fun m => (j.headPage + 1 + m) % 128 :=
    List.find?_map
  rw [Journal.tailPage_of_open h, hring, hfirst, Option.map_some, Option.getD_some, hat, Nat.sub_add_cancel hpos]

end

/-! ### The requests (R147, R149) -/

section
variable {s : State} {through : Nat}

theorem State.answerJournalRelease_keeps (h : s.effectiveRelease through ≤ s.journal.released) :
    s.answerJournalRelease through
      = { status := .ok,
          fields := beBytes 4 (s.effectiveRelease through) ++ beBytes 4 s.journal.released
            ++ [markByte (decide (s.effectiveRelease through < through))],
          state := s } := by
  have hkept : s.journal.releaseThrough (s.effectiveRelease through) = s.journal := if_neg (Nat.not_lt.mpr h)
  rw [State.answerJournalRelease, hkept]

theorem State.answerJournalRelease_raises (h : s.journal.released < s.effectiveRelease through) :
    s.answerJournalRelease through
      = { status := .ok,
          fields := beBytes 4 (s.effectiveRelease through) ++ beBytes 4 (s.effectiveRelease through)
            ++ [markByte (decide (s.effectiveRelease through < through))],
          state := { s with journal := { s.journal with released := s.effectiveRelease through }.releasePages } } := by
  have hraised : s.journal.releaseThrough (s.effectiveRelease through)
      = { s.journal with released := s.effectiveRelease through }.releasePages := if_pos h
  rw [State.answerJournalRelease, hraised, Journal.releasePages_released]

end

/-- Settles O47: the read and the release by their answers, the tests by the pages freed, and the tail page by the first after the head that is
not ERASED. -/
theorem journalReadsAndReleases : Obligations.JournalReadsAndReleases := by
  refine ⟨fun s n => ⟨fun hs => ?_, fun hs => ⟨fun hkeeps => ?_, fun hraises => ?_⟩⟩, fun j hwf => ?_,
    fun j => ⟨Journal.tailPage_of_not_open, Journal.tailPage_of_others_erased, fun h k => Journal.tailPage_of_first h⟩⟩
  · refine ⟨s.journal.readRecords n.toNat, s.journal.recordsFrom_pairwise _ _, s.journal.mem_readRecords_iff n.toNat, ?_⟩
    exact exec_served (.journalRead n) (exec_journalRead n s) rfl hs rfl rfl rfl
  · refine (exec_served (.journalRelease n) (exec_journalRelease n s) rfl hs rfl (State.answerJournalRelease_keeps hkeeps) rfl).trans ?_
    simp only [markByte, decide_eq_true_eq]
    rfl
  · refine (exec_served (.journalRelease n) (exec_journalRelease n s) rfl hs rfl (State.answerJournalRelease_raises hraises) rfl).trans ?_
    simp only [markByte, decide_eq_true_eq]
    rfl
  · intro after passes
    have hpasses : ∀ p, p ∈ j.freedPages ↔ p < 128 ∧ passes p := fun p => by
      rw [Journal.mem_freedPages_iff, Journal.releasable_iff hwf]
    refine ⟨j.releasePages_frame, fun p hp => ⟨fun h => ?_, fun h => ?_⟩, j.freedPages, j.releasePages_eraseQueue, hpasses,
      j.freedPages_pairwise, Journal.free_releasePages hwf⟩
    · exact (j.releasePages_page p).trans (if_pos ((hpasses p).mpr ⟨hp, h⟩))
    · exact (j.releasePages_page p).trans (if_neg fun hmem => h ((hpasses p).mp hmem).2)

end Sys2Proof.Machine
end

section
/-! SUPPORT. The length of a rendering (R159, R160): the bound of each text and line, and the sum over a slip's lines. -/

namespace Sys2Proof.Machine

open Config

/-! ### Numbers, dates and times -/

@[simp] theorem digits_length (n v : Nat) : (digits n v).length = n := by
  induction n generalizing v with
  | zero => rfl
  | succ n ih => simp [digits, ih]

@[simp] theorem ascii_length (cs : List Char) : (ascii cs).length = cs.length := List.length_map ..

/-- A number below 10 to the `k` takes at most `k` digits. -/
theorem digitCount_le {k v : Nat} (fuel : Nat) (hk : 1 ≤ k) (h : v < 10 ^ k) : digitCount fuel v ≤ k := by
  induction fuel generalizing k v with
  | zero => exact Nat.zero_le _
  | succ fuel ih =>
    obtain ⟨k, rfl⟩ := Nat.exists_eq_add_of_le' hk
    unfold digitCount
    split
    · exact hk
    · next hlong =>
      have hquotient : v / 10 < 10 ^ k := Nat.div_lt_of_lt_mul (by rwa [pow_succ'] at h)
      have hpos : 1 ≤ k := by
        by_contra hzero
        obtain rfl : k = 0 := by omega
        omega
      have := ih hpos hquotient
      omega

theorem decimal_length_le {k v : Nat} (hk : 1 ≤ k) (h : v < 10 ^ k) : (decimal v).length ≤ k := by
  rw [decimal, digits_length]
  exact digitCount_le 14 hk h

@[simp] theorem dateText_length (d : Nat) : (dateText d).length = 10 := by
  unfold dateText
  split <;> simp

@[simp] theorem minuteText_length (m : Nat) : (minuteText m).length = 5 := by simp [minuteText]

@[simp] theorem timeText_length (t : Stamp) : (timeText t).length = 5 := by
  unfold timeText
  split <;> simp

@[simp] theorem maskedCard_length (card : Nat) : (maskedCard card).length = 10 := by simp [maskedCard]

theorem renewedMark_length_le (renewed : Bool) : (renewedMark renewed).length ≤ 2 := by cases renewed <;> simp [renewedMark]

/-! ### Lines -/

/-- The bytes that some lines take in the print buffer, each with its 0Dh 0Ah (R159). -/
def printedLength (lines : List (List Byte)) : Nat := (lines.map fun l => l.length + 2).sum

@[simp] theorem printedLength_nil : printedLength [] = 0 := rfl

@[simp] theorem printedLength_cons (l : List Byte) (lines : List (List Byte)) :
    printedLength (l :: lines) = l.length + 2 + printedLength lines := List.sum_cons

@[simp] theorem printedLength_append (lines more : List (List Byte)) :
    printedLength (lines ++ more) = printedLength lines + printedLength more := by simp [printedLength]

/-- Three 0Ah and the cut code follow the lines (R159). -/
theorem render_length (c : ConfigRecord) (slip : Slip) :
    (render c slip).length = printedLength (slipLines c.title c.footer1 c.footer2 slip) + 5 := by
  simp [render, printedLength, List.length_flatMap]

/-- Several entries take at most as much as each may (R159). -/
theorem printedLength_flatMap_le {α : Type} {f : α → List (List Byte)} {m : Nat} {l : List α}
    (h : ∀ a ∈ l, printedLength (f a) ≤ m) : printedLength (l.flatMap f) ≤ m * l.length := by
  induction l with
  | nil => exact Nat.zero_le _
  | cons a l ih =>
    obtain ⟨ha, hl⟩ := List.forall_mem_cons.mp h
    rw [List.flatMap_cons, printedLength_append, List.length_cons, Nat.mul_succ, Nat.add_comm]
    exact Nat.add_le_add (ih hl) ha

theorem printedLength_entryLines_le {g : Granted} (h : g.item ≤ maxIdentity) : printedLength (entryLines g) ≤ 47 := by
  have hitem : (decimal g.item).length ≤ 14 := decimal_length_le (by decide) (Nat.lt_succ_of_le h)
  have hmark := renewedMark_length_le g.renewed
  simp only [entryLines, printedLength_cons, printedLength_nil, List.length_append, ascii_length, List.length_cons, List.length_nil,
    dateText_length, minuteText_length]
  omega

/-- Lines 4 to 7 of a loan slip of at most 24 entries (R159). -/
theorem printedLength_loan_le (card : Nat) {entries : List Granted} (hlength : entries.length ≤ 24)
    (h : ∀ g ∈ entries, g.item ≤ maxIdentity) : printedLength (bodyLines card (.loan entries)) ≤ 1159 := by
  have hcount : (decimal entries.length).length ≤ 2 := decimal_length_le (by decide) (by omega)
  have hentries := printedLength_flatMap_le (f := entryLines) fun g hg => printedLength_entryLines_le (h g hg)
  simp only [bodyLines, printedLength_append, printedLength_cons, printedLength_nil, List.length_append, ascii_length,
    List.length_cons, List.length_nil, maskedCard_length]
  omega

theorem printedLength_hold_le (card expiry : Nat) {item : Nat} (h : item ≤ maxIdentity) :
    printedLength (bodyLines card (.hold item expiry)) ≤ 1159 := by
  have hitem : (decimal item).length ≤ 14 := decimal_length_le (by decide) (Nat.lt_succ_of_le h)
  simp only [bodyLines, printedLength_cons, printedLength_nil, List.length_append, ascii_length, List.length_cons, List.length_nil,
    maskedCard_length, dateText_length]
  omega

/-- A footer that is empty has no line (R159). -/
theorem printedLength_footers_le (footers : List (List Byte)) :
    printedLength (footers.filter fun f => !f.isEmpty) ≤ printedLength footers :=
  (List.filter_sublist.map _).sum_le_sum fun _ _ => Nat.zero_le _

/-- Everything of a slip but its body (R159). -/
theorem printedLength_slipLines_le {title footer1 footer2 : List Byte} (htitle : title.length ≤ 24) (hfooter1 : footer1.length ≤ 32)
    (hfooter2 : footer2.length ≤ 32) (slip : Slip) :
    printedLength (slipLines title footer1 footer2 slip) ≤ printedLength (bodyLines slip.card slip.body) + 130 := by
  have hstation : (decimal slip.station.val).length ≤ 1 := decimal_length_le (by decide) (by omega)
  have hfooters := printedLength_footers_le [footer1, footer2]
  have hcopy : printedLength (if slip.copy then [ascii ['*', '*', ' ', 'C', 'O', 'P', 'Y', ' ', '*', '*']] else []) ≤ 12 := by
    split <;> simp
  simp only [printedLength_cons, printedLength_nil] at hfooters
  simp only [slipLines, printedLength_append, printedLength_cons, printedLength_nil, List.length_append, dateText_length,
    timeText_length, ascii_length, List.length_cons, List.length_nil]
  omega

/-- Settles O33: the body's lines and the other lines, each at their longest. -/
theorem renderingFitsBuffer : Obligations.RenderingFitsBuffer := by
  intro c slip hc hslip
  obtain ⟨-, -, -, -, -, -, -, -, -, -, -, -, -, ⟨htitle, -⟩, ⟨hfooter1, -⟩, ⟨hfooter2, -⟩⟩ := hc
  have hbody : printedLength (bodyLines slip.card slip.body) ≤ 1159 := by
    cases hb : slip.body with
    | loan entries =>
      rw [hb] at hslip
      obtain ⟨hlength, hitems⟩ := hslip
      exact printedLength_loan_le slip.card hlength hitems
    | hold item expiry =>
      rw [hb] at hslip
      exact printedLength_hold_le slip.card expiry hslip
  have hlines := printedLength_slipLines_le htitle hfooter1 hfooter2 slip
  rw [render_length]
  omega

end Sys2Proof.Machine
end

section
/-! SUPPORT. The slip queue and Printer Control (R156, R157, R162, R167 to R170): what each operation of the Slip Unit makes of it, case by case,
and the actions by their answers. -/

namespace Sys2Proof.Machine

section
variable {u : SlipUnit} (c : ConfigRecord) (paperOut ready : Bool)

/-! ### A slip becomes current or waits (R156, R157, R158) -/

theorem SlipUnit.begin_of_empty (hq : u.queue = []) :
    u.begin_ c paperOut ready = { u with port := .idle, buffer := [], position := 0 } := by
  simp only [SlipUnit.begin_, hq]

theorem SlipUnit.begin_of_head {slip : Slip} {rest : List Slip} (hq : u.queue = slip :: rest) :
    u.begin_ c paperOut ready
      = SlipUnit.test { u with port := .printing, buffer := render c slip, position := 0 } c.printerRate paperOut ready := by
  simp only [SlipUnit.begin_, hq]

theorem SlipUnit.join_of_idle (hport : u.port = .idle) (slip : Slip) :
    u.join c paperOut ready slip = SlipUnit.begin_ { u with queue := u.queue ++ [slip] } c paperOut ready := if_pos hport

theorem SlipUnit.join_of_busy (hport : u.port ≠ .idle) (slip : Slip) :
    u.join c paperOut ready slip = { u with queue := u.queue ++ [slip] } := if_neg hport

/-- The first slip of an IDLE port is rendered at once (R158). -/
theorem SlipUnit.join_of_alone (hport : u.port = .idle) (hq : u.queue = []) (slip : Slip) :
    u.join c paperOut ready slip
      = SlipUnit.test { u with queue := [slip], port := .printing, buffer := render c slip, position := 0 }
          c.printerRate paperOut ready := by
  rw [SlipUnit.join_of_idle _ _ _ hport, hq]
  rfl

/-! ### The actions (R167 to R170) -/

theorem SlipUnit.stop_of_current (hport : u.port = .printing ∨ u.port = .paused) : u.stop = { u with port := .stopping } := by
  obtain h | h := hport <;> simp only [SlipUnit.stop, h]

theorem SlipUnit.stop_of_idle (hport : u.port = .idle) : u.stop = { u with port := .held } := by
  simp only [SlipUnit.stop, hport]

theorem SlipUnit.resume_of_held (hport : u.port = .held) : u.resume c paperOut ready = some (u.begin_ c paperOut ready) := by
  simp only [SlipUnit.resume, hport]

theorem SlipUnit.resume_of_stopping (hport : u.port = .stopping) :
    u.resume c paperOut ready = some { u with port := if u.line = .mark then .paused else .printing } := by
  simp only [SlipUnit.resume, hport]

theorem SlipUnit.abort_of_current (hport : u.port = .printing ∨ u.port = .paused ∨ u.port = .stopping) :
    u.abort = { u with
      queue := u.queue.tail, buffer := [], position := 0, port := .held, line := u.line.orphan, stalled := false } := by
  obtain h | h | h := hport <;> simp only [SlipUnit.abort, h]

theorem SlipUnit.abort_of_none (hport : u.port = .idle ∨ u.port = .held) : u.abort = { u with port := .held } := by
  obtain h | h := hport <;> simp only [SlipUnit.abort, h]

theorem SlipUnit.reprint_of_room {slip : Slip} (hlast : u.lastPrinted = some slip) (hroom : u.queue.length < 4) :
    u.reprint c paperOut ready = (.ok, u.join c paperOut ready { slip with copy := true }) := by
  simp only [SlipUnit.reprint, hlast]
  exact if_neg (Nat.not_le.mpr hroom)

end

/-! ### The requests (R167 to R170) -/

section
variable {s : State}

theorem State.answerPrinter_resume {v : SlipUnit} (h : s.slips.resume s.config s.levels.paperOut s.ready = some v) :
    s.answerPrinter 1 = State.done { s with slips := v } := by
  simp only [State.answerPrinter, State.resumePrinter_eq, h]
  rfl

theorem State.answerPrinter_reprint {v : SlipUnit} (h : s.slips.reprint s.config s.levels.paperOut s.ready = (.ok, v)) :
    s.answerPrinter 3 = State.done { s with slips := v } := by
  simp only [State.answerPrinter, State.reprint, h]
  rfl

/-- A served Printer Control that is answered OK leaves the Slip Unit its answer gives. -/
theorem exec_printerControl_of_ok {c : Instr} {action : Byte} {v : SlipUnit} (hs : s.serves 1 = true)
    (hc : exec c s = finish s (s.takeRequest (.printerControl action)))
    (ha : s.answerPrinter action.toNat = State.done { s with slips := v }) :
    exec c s = .next (answered s { s with slips := v } 0x93 [0]) :=
  exec_served (.printerControl action) hc rfl hs rfl ha rfl

theorem exec_printerControlStop_of_served (hs : s.serves 1 = true) :
    exec .printerControlStop s = .next (answered s { s with slips := s.slips.stop } 0x93 [0]) :=
  exec_printerControl_of_ok hs rfl rfl

theorem exec_printerControlResume_of_some (hs : s.serves 1 = true) {v : SlipUnit}
    (h : s.slips.resume s.config s.levels.paperOut s.ready = some v) :
    exec .printerControlResume s = .next (answered s { s with slips := v } 0x93 [0]) :=
  exec_printerControl_of_ok hs rfl (State.answerPrinter_resume h)

theorem exec_printerControlAbort_of_served (hs : s.serves 1 = true) :
    exec .printerControlAbort s = .next (answered s { s with slips := s.slips.abort } 0x93 [0]) :=
  exec_printerControl_of_ok hs rfl rfl

theorem exec_printerControlReprint_of_room (hs : s.serves 1 = true) {slip : Slip} (hlast : s.slips.lastPrinted = some slip)
    (hroom : s.slips.queue.length < 4) :
    exec .printerControlReprint s
      = .next (answered s
          { s with slips := s.slips.join s.config s.levels.paperOut s.ready { slip with copy := true } } 0x93 [0]) :=
  exec_printerControl_of_ok hs rfl (State.answerPrinter_reprint (SlipUnit.reprint_of_room _ _ _ hlast hroom))

end

/-- Settles O32: each action by the port states that allow it. -/
theorem printerControlActs : Obligations.PrinterControlActs := by
  intro s hs u ok tested
  refine ⟨fun hport => ?_, fun hport => ?_, fun hport hq => ?_, fun slip rest hport hq => ?_, fun hport => ?_, fun hport => ?_,
    fun hport => ?_, fun slip hlast hroom => ⟨fun hport => ?_, fun hport hq => ?_⟩⟩
  · rw [exec_printerControlStop_of_served hs, SlipUnit.stop_of_current hport]
  · rw [exec_printerControlStop_of_served hs, SlipUnit.stop_of_idle hport]
  · rw [exec_printerControlResume_of_some hs (SlipUnit.resume_of_held _ _ _ hport), SlipUnit.begin_of_empty _ _ _ hq]
  · rw [exec_printerControlResume_of_some hs (SlipUnit.resume_of_held _ _ _ hport), SlipUnit.begin_of_head _ _ _ hq]
  · rw [exec_printerControlResume_of_some hs (SlipUnit.resume_of_stopping _ _ _ hport)]
  · rw [exec_printerControlAbort_of_served hs, SlipUnit.abort_of_current hport]
    dsimp only [ok, u]
    cases s.slips.line <;> rfl
  · rw [exec_printerControlAbort_of_served hs, SlipUnit.abort_of_none hport]
  · rw [exec_printerControlReprint_of_room hs hlast hroom, SlipUnit.join_of_busy _ _ _ hport]
  · rw [exec_printerControlReprint_of_room hs hlast hroom, SlipUnit.join_of_alone _ _ _ hport hq]

end Sys2Proof.Machine
end

section
/-! SUPPORT. The Slip Unit stays within Table 11 (R156, R162, R166): each operation of the unit keeps it well formed, and so does everything a
command does to the state. -/

namespace Sys2Proof.Machine

open Config

/-! ### One Slip Unit (Table 11) -/

theorem Port.hasCurrent_iff (p : Port) : p.hasCurrent = true ↔ p = .printing ∨ p = .paused ∨ p = .stopping := by
  cases p <;> decide

theorem Port.not_hasCurrent_iff (p : Port) : p.hasCurrent = false ↔ p = .idle ∨ p = .held := by
  cases p <;> decide

theorem PrinterLine.orphan_ofSlip (l : PrinterLine) : l.orphan.ofSlip = false := by cases l <;> rfl

/-- A rendering has a first byte (R159). -/
theorem render_length_pos (c : ConfigRecord) (slip : Slip) : 0 < (render c slip).length := by
  rw [render_length]
  exact Nat.succ_pos _

theorem SlipUnit.afterReset_wf : SlipUnit.afterReset.Wf := by decide

section
variable {u : SlipUnit}

/-- A unit with a current slip: its queue holds it, and a byte is left. -/
theorem SlipUnit.wf_of_current (hqueue : u.queue.length ≤ slipQueueDepth) (hport : u.port.hasCurrent = true) (hsome : u.queue ≠ [])
    (hpos : u.position < u.buffer.length) : u.Wf := by
  refine ⟨hqueue, fun hidle => ?_, fun _ => ⟨hsome, hpos⟩, fun hnone => ?_, fun _ => hport⟩
  · rw [hidle] at hport
    cases hport
  · rw [hport] at hnone
    cases hnone

/-- A unit without a current slip: nothing is left of one, and an IDLE port has none that waits. -/
theorem SlipUnit.wf_of_no_current (hqueue : u.queue.length ≤ slipQueueDepth) (hport : u.port.hasCurrent = false)
    (hidle : u.port = .idle → u.queue = []) (hbuffer : u.buffer = []) (hpos : u.position = 0) (hline : u.line.ofSlip = false)
    (hstalled : u.stalled = false) : u.Wf := by
  refine ⟨hqueue, hidle, fun hc => ?_, fun _ => ⟨hbuffer, hpos⟩, fun hshown => ?_⟩
  · rw [hport] at hc
    cases hc
  · simp [hline, hstalled] at hshown

/-- Without a current slip no byte of one is sent and no stall is shown (R166, R169). -/
theorem SlipUnit.quiet_of_wf (h : u.Wf) (hport : u.port.hasCurrent = false) : u.line.ofSlip = false ∧ u.stalled = false := by
  obtain ⟨-, -, -, -, hbyte⟩ := h
  simpa [hport] using hbyte

/-- The port takes a state other than IDLE that has a current slip where the former one had. -/
theorem SlipUnit.withPort_wf (h : u.Wf) {p : Port} (hp : p.hasCurrent = u.port.hasCurrent) (hidle : p ≠ .idle) :
    ({ u with port := p } : SlipUnit).Wf := by
  obtain ⟨hqueue, -, hrest⟩ := h
  rw [← hp] at hrest
  exact ⟨hqueue, fun e => absurd e hidle, hrest⟩

/-- A test begins a byte of the current slip or pauses its port (R163). -/
theorem SlipUnit.test_wf (h : u.Wf) (rate : Nat) (paperOut ready : Bool) : (u.test rate paperOut ready).Wf := by
  have ⟨hqueue, _, hcurrent, _⟩ := h
  have hkept : ∀ p q : Port, q.hasCurrent = true → u.port.hasCurrent = true → (if u.port = p then q else u.port).hasCurrent = true :=
    fun p q hq hport => by
      split
      · exact hq
      · exact hport
  obtain e | ⟨e, -, -, hport, hpos⟩ | ⟨e, hport, hpos⟩ := u.test_cases rate paperOut ready <;> rw [e]
  · exact h
  · obtain ⟨hsome, -⟩ := hcurrent hport
    exact SlipUnit.wf_of_current hqueue (hkept _ _ rfl hport) hsome hpos
  · obtain ⟨hsome, -⟩ := hcurrent hport
    exact SlipUnit.wf_of_current hqueue (hkept _ _ rfl hport) hsome hpos

section
variable (c : ConfigRecord) (paperOut ready : Bool)

/-- The head of a queue begins whole, and an empty queue makes the port IDLE (R158, R162). -/
theorem SlipUnit.begin_wf (hqueue : u.queue.length ≤ slipQueueDepth) (hline : u.line.ofSlip = false) (hstalled : u.stalled = false) :
    (u.begin_ c paperOut ready).Wf := by
  cases hq : u.queue with
  | nil =>
    rw [SlipUnit.begin_of_empty _ _ _ hq]
    exact SlipUnit.wf_of_no_current hqueue rfl (fun _ => hq) rfl rfl hline hstalled
  | cons slip rest =>
    rw [SlipUnit.begin_of_head _ _ _ hq]
    refine SlipUnit.test_wf ?_ _ _ _
    exact SlipUnit.wf_of_current hqueue rfl (by simp [hq]) (render_length_pos c slip)

theorem SlipUnit.join_wf (h : u.Wf) (hroom : u.queue.length < slipQueueDepth) (slip : Slip) : (u.join c paperOut ready slip).Wf := by
  have hqueue : (u.queue ++ [slip]).length ≤ slipQueueDepth := by simpa using hroom
  by_cases hport : u.port = .idle
  · obtain ⟨hline, hstalled⟩ := SlipUnit.quiet_of_wf h (by rw [hport]; rfl)
    rw [SlipUnit.join_of_idle _ _ _ hport]
    exact SlipUnit.begin_wf c paperOut ready hqueue hline hstalled
  · obtain ⟨-, -, hcurrent, hrest⟩ := h
    rw [SlipUnit.join_of_busy _ _ _ hport]
    exact ⟨hqueue, fun e => absurd e hport, fun hc => ⟨by simp, (hcurrent hc).right⟩, hrest⟩

/-- The port holds after the last byte of a slip in STOPPING, and otherwise goes on with the queue (R162, R164). -/
theorem SlipUnit.leave_wf (hqueue : u.queue.length ≤ slipQueueDepth) (hline : u.line.ofSlip = false) (hstalled : u.stalled = false) :
    (u.leave c paperOut ready).Wf := by
  have htail : u.queue.tail.length ≤ slipQueueDepth := by rw [List.length_tail]; omega
  unfold SlipUnit.leave
  dsimp only
  split
  · exact SlipUnit.wf_of_no_current htail rfl nofun rfl rfl hline hstalled
  · exact SlipUnit.begin_wf c paperOut ready htail hline hstalled

/-- A byte in flight is of the current slip, which has more or leaves, or of an aborted one (R163, R164, R169). -/
theorem SlipUnit.accepted_wf (h : u.Wf) : (u.accepted c paperOut ready).Wf := by
  have ⟨hqueue, hidle, hcurrent, hbare, hbyte⟩ := h
  cases hline : u.line with
  | mark => simpa only [SlipUnit.accepted, hline] using h
  | sending b rate ofCurrent =>
    cases ofCurrent with
    | false =>
      rw [SlipUnit.accepted_of_orphan _ _ _ hline]
      refine SlipUnit.test_wf ?_ _ _ _
      exact ⟨hqueue, hidle, hcurrent, hbare, by simp [PrinterLine.ofSlip]⟩
    | true =>
      have hport : u.port.hasCurrent = true := hbyte (.inl (by rw [hline]; rfl))
      obtain ⟨hsome, -⟩ := hcurrent hport
      by_cases hmore : u.position + 1 < u.buffer.length
      · rw [SlipUnit.accepted_of_more _ _ _ hline hmore]
        exact SlipUnit.test_wf (u := u.advanced) (SlipUnit.wf_of_current hqueue hport hsome hmore) _ _ _
      · rw [SlipUnit.accepted_of_last _ _ _ hline (Nat.not_lt.mp hmore)]
        exact SlipUnit.leave_wf (u := u.advanced) c paperOut ready hqueue rfl rfl

theorem SlipUnit.stop_wf (h : u.Wf) : u.stop.Wf := by
  unfold SlipUnit.stop
  split
  · next hport => exact SlipUnit.withPort_wf h (by rw [hport]; rfl) nofun
  · next hport => exact SlipUnit.withPort_wf h (by rw [hport]; rfl) nofun
  · next hport => exact SlipUnit.withPort_wf h (by rw [hport]; rfl) nofun
  · exact h
  · exact h

theorem SlipUnit.resume_wf (h : u.Wf) {v : SlipUnit} (hv : u.resume c paperOut ready = some v) : v.Wf := by
  obtain hport | hport := (u.resume_isSome_iff c paperOut ready).mp (by rw [hv]; rfl)
  · rw [SlipUnit.resume_of_held _ _ _ hport] at hv
    cases hv
    obtain ⟨hline, hstalled⟩ := SlipUnit.quiet_of_wf h (by rw [hport]; rfl)
    obtain ⟨hqueue, -⟩ := h
    exact SlipUnit.begin_wf c paperOut ready hqueue hline hstalled
  · rw [SlipUnit.resume_of_stopping _ _ _ hport] at hv
    cases hv
    refine SlipUnit.withPort_wf h ?_ ?_
    · rw [hport]
      split <;> rfl
    · split <;> nofun

/-- An Abort leaves no current slip, and a byte in flight is no longer of one (R169). -/
theorem SlipUnit.abort_wf (h : u.Wf) : u.abort.Wf := by
  cases hport : u.port.hasCurrent with
  | true =>
    rw [SlipUnit.abort_of_current ((Port.hasCurrent_iff _).mp hport)]
    obtain ⟨hqueue, -⟩ := h
    exact SlipUnit.wf_of_no_current (by rw [List.length_tail]; omega) rfl nofun rfl rfl (PrinterLine.orphan_ofSlip _) rfl
  | false =>
    rw [SlipUnit.abort_of_none ((Port.not_hasCurrent_iff _).mp hport)]
    exact SlipUnit.withPort_wf h hport.symm nofun

theorem SlipUnit.reprint_wf (h : u.Wf) : (u.reprint c paperOut ready).2.Wf := by
  unfold SlipUnit.reprint
  split
  · exact h
  · split
    · exact h
    · next hroom => exact SlipUnit.join_wf c paperOut ready h (Nat.not_le.mp hroom) _

/-- The stall timer runs only for a byte of a current slip (R166). -/
theorem SlipUnit.stalled_wf (h : u.Wf) (hruns : u.stallTimerRuns ready = true) : ({ u with stalled := true } : SlipUnit).Wf := by
  obtain ⟨hqueue, hidle, hcurrent, hbare, -⟩ := h
  simp only [SlipUnit.stallTimerRuns, SlipUnit.waiting, Bool.and_eq_true] at hruns
  obtain ⟨⟨⟨hport, -⟩, -⟩, -⟩ := hruns
  exact ⟨hqueue, hidle, hcurrent, hbare, fun _ => hport⟩

end
end

/-! ### The state's Slip Unit -/

/-- The state's Slip Unit stays within Table 11. -/
abbrev State.SlipsWf (s : State) : Prop := s.slips.Wf

theorem State.SlipsWf.of_eq {s t : State} (h : s.SlipsWf) (e : t.slips = s.slips) : t.SlipsWf := by
  rwa [State.SlipsWf, e]

section
variable {s : State}

theorem State.portTest_slipsWf (h : s.SlipsWf) : s.portTest.SlipsWf := SlipUnit.test_wf h _ _ _

/-- A slip joins the queue only while it has room (R157). -/
theorem State.joinSlip_slipsWf (h : s.SlipsWf) (hroom : s.slipRoom = true) (slip : Slip) : (s.joinSlip slip).SlipsWf :=
  SlipUnit.join_wf _ _ _ h (of_decide_eq_true hroom) slip

theorem State.resumePrinter_slipsWf (h : s.SlipsWf) : s.resumePrinter.2.SlipsWf := by
  unfold State.resumePrinter
  split
  · next u hu => exact SlipUnit.resume_wf _ _ _ h hu
  · exact h

theorem State.reprint_slipsWf (h : s.SlipsWf) : s.reprint.2.SlipsWf := SlipUnit.reprint_wf _ _ _ h

/-! ### Closing a session and changing a mode (R25, R43 to R46) -/

theorem State.offer_slipsWf (h : s.SlipsWf) (i : Station) (slip : Slip) : (s.offer i slip).SlipsWf := by
  unfold State.offer
  split
  · next hroom => exact (State.joinSlip_slipsWf h hroom slip).of_eq (State.slipSettled_slips ..)
  · split
    · exact h.of_eq (State.slipSettled_slips ..)
    · exact h

theorem State.beginClose_slipsWf (h : s.SlipsWf) (i : Station) (shown : Option OutcomeKind) : (s.beginClose i shown).SlipsWf := by
  have hsettled : ∀ (u : State) (skip : Bool) (slip : Slip), u.SlipsWf →
      (if skip then u.settleSlip i .none else u.offer i slip).SlipsWf := fun u skip slip hu => by
    split
    · exact hu
    · exact State.offer_slipsWf hu i slip
  unfold State.beginClose
  refine hsettled _ _ _ ?_
  cases shown with
  | none => exact h
  | some o => exact h.of_eq (State.display_slips ..)

theorem State.closeFromOutside_slipsWf (h : s.SlipsWf) (i : Station) : (s.closeFromOutside i).SlipsWf := by
  unfold State.closeFromOutside
  split
  · exact h
  · exact State.beginClose_slipsWf h i _

theorem State.modeChanged_slipsWf (h : s.SlipsWf) (i : Station) (before : Mode) : (s.modeChanged i before).SlipsWf := by
  have hentered : (if s.outOfService i then (s.onSession i fun x => { x with window := none }).darken i else s).SlipsWf := by
    split <;> exact h
  unfold State.modeChanged
  split
  · exact h
  · refine State.SlipsWf.of_eq ?_ (State.discardScans_slips ..)
    split
    · exact State.closeFromOutside_slipsWf hentered i
    · exact hentered

theorem State.setMode_slipsWf (h : s.SlipsWf) (i : Station) (m : Mode) : (s.setMode i m).SlipsWf :=
  State.modeChanged_slipsWf
    (s := { s with config := { s.config with stations := s.config.stations.set i { s.config.stations[i] with mode := m } } }) h i _

theorem State.takeWaiting_slipsWf (h : s.SlipsWf) (hroom : s.slipRoom = true) (i : Station) (slip : Slip) :
    (s.takeWaiting i slip).SlipsWf :=
  State.SlipsWf.of_eq (State.joinSlip_slipsWf (s := s.endWait i) h hroom slip) (State.slipSettled_slips ..)

/-! ### The arbiter's grant (R28 to R42) -/

theorem State.command_slipsWf (h : s.SlipsWf) (i : Station) (n : Nat) : (s.command i n).SlipsWf := by
  have hshown : ∀ (u : State) (o : OutcomeKind), u.SlipsWf → (u.display i o).SlipsWf := fun u o hu =>
    hu.of_eq (State.display_slips ..)
  unfold State.command
  split
  · split
    · exact State.beginClose_slipsWf h i _
    · exact hshown s _ h
  · exact State.setMode_slipsWf (hshown s _ h) i _
  · exact State.setMode_slipsWf (hshown s _ h) i _
  · exact State.setMode_slipsWf (hshown s _ h) i _
  · exact hshown _ _ (State.reprint_slipsWf h)
  · exact hshown _ _ (State.resumePrinter_slipsWf h)
  · exact hshown _ _ (h.of_eq (State.clearConditions_slips ..))
  · exact State.setMode_slipsWf h i _
  · exact h

theorem State.commandCard_slipsWf (h : s.SlipsWf) (i : Station) (n : Nat) : (s.commandCard i n).SlipsWf := by
  unfold State.commandCard
  split
  · exact State.command_slipsWf (s := s.onSession i fun x => { x with window := none }) h i n
  · exact h.of_eq (State.display_slips ..)

theorem State.grantIdle_slipsWf (h : s.SlipsWf) (i : Station) (scan : ScanRecord) : (s.grantIdle i scan).SlipsWf := by
  have htaken : (s.takeScan i scan).SlipsWf := h.of_eq (State.takeScan_slips ..)
  unfold State.grantIdle
  split
  · split
    · exact htaken.of_eq (State.display_slips ..)
    all_goals exact htaken
  · split <;> exact htaken
  · exact htaken
  · exact State.commandCard_slipsWf htaken i _
  all_goals exact htaken

theorem State.grantOpen_slipsWf (h : s.SlipsWf) (i : Station) (scan : ScanRecord) : (s.grantOpen i scan).SlipsWf := by
  have htaken : (s.takeScan i scan).SlipsWf := h.of_eq (State.takeScan_slips ..)
  unfold State.grantOpen
  split
  · exact htaken
  · split
    · exact State.beginClose_slipsWf htaken i _
    · exact State.beginClose_slipsWf h i _
  · exact htaken
  · exact State.commandCard_slipsWf htaken i _
  all_goals exact htaken

theorem State.grant_slipsWf (h : s.SlipsWf) : s.grant.SlipsWf := by
  unfold State.grant
  split
  · split
    · exact h
    · next i _ =>
      have hgranted : State.SlipsWf { s with lastGranted := i } := h
      split
      · exact h
      · dsimp only
        split
        · exact State.grantIdle_slipsWf hgranted i _
        · exact State.grantOpen_slipsWf hgranted i _
        · exact h
  · exact h

/-! ### Decisions and turns (R46, R50, R133 to R136) -/

theorem State.offerHold_slipsWf (h : s.SlipsWf) (i : Station) (slip : Option Slip) : (s.offerHold i slip).SlipsWf := by
  unfold State.offerHold
  split
  · split
    · exact State.offer_slipsWf h i _
    · exact h
  · exact h

theorem State.closeAfter_slipsWf (h : s.SlipsWf) (i : Station) (opened : Bool) : (s.closeAfter i opened).SlipsWf := by
  by_cases hcloses : s.ClosesAfter i opened
  · rw [State.closeAfter_of_closes hcloses]
    exact State.beginClose_slipsWf h i _
  · rwa [State.closeAfter_of_stays hcloses]

theorem State.applyVerdict_slipsWf (h : s.SlipsWf) (d : Decision) (v : Verdict) (sequence : Nat) :
    (s.applyVerdict d v sequence).SlipsWf := by
  refine State.closeAfter_slipsWf (State.offerHold_slipsWf ?_ _ _) _ _
  rw [State.SlipsWf, State.displayFor_slips, State.latchFor_slips]
  exact h

theorem State.serveEngine_slipsWf (h : s.SlipsWf) (recorded : Bool) : (s.serveEngine recorded).SlipsWf := by
  unfold State.serveEngine
  split
  · exact h
  · dsimp only
    split
    · exact h
    · exact State.applyVerdict_slipsWf h _ _ _

theorem State.serveRecorded_slipsWf (h : s.SlipsWf) (r : Requester) : (s.serveRecorded r).SlipsWf := by
  cases r with
  | engine => exact State.serveEngine_slipsWf h true
  | patch =>
    simp only [State.serveRecorded]
    split <;> exact h
  | clock => exact h.of_eq (State.serveClock_slips s)
  | commit | close | restart => exact h

theorem State.turn_slipsWf (h : s.SlipsWf) : s.turn.SlipsWf := by
  have hpopped : s.popRequest.SlipsWf := h
  unfold State.turn
  split
  · split
    · exact h
    · split
      · exact State.serveRecorded_slipsWf hpopped _
      · exact State.serveEngine_slipsWf hpopped _
      · exact h
  · exact h

theorem State.ownerEffects_slipsWf (h : s.SlipsWf) (r : JournalRecord) (o : Requester) : (s.ownerEffects r o).SlipsWf := by
  cases o with
  | engine =>
    simp only [State.ownerEffects]
    split
    · exact State.applyVerdict_slipsWf h _ _ _
    · exact h
  | clock => exact h.of_eq (State.setClock_slips s)
  | close i => exact h.of_eq (State.discardScans_slips ..)
  | patch | commit | restart => exact h

theorem State.completeWrite_slipsWf (h : s.SlipsWf) : s.completeWrite.SlipsWf := by
  unfold State.completeWrite
  split
  · exact State.ownerEffects_slipsWf (s := s.recordEffects _) h _ _
  · exact h

theorem State.endReplay_slips (s : State) : s.endReplay.slips = s.slips := by
  unfold State.endReplay
  dsimp only
  repeat' split
  all_goals rfl

/-! ### The configuration record, starts and a power loss (R171, R184, R192) -/

theorem State.stationStored_slipsWf (h : s.SlipsWf) (old : State) (i : Station) : (State.stationStored old s i).SlipsWf := by
  refine State.modeChanged_slipsWf ?_ i _
  unfold State.lineChanged
  split <;> exact h

theorem State.configureDone_slipsWf (h : s.SlipsWf) (c : ConfigRecord) : (s.configureDone c).SlipsWf := by
  have hrate : ∀ t : State, t.rateStored.slips = t.slips := fun t => by
    unfold State.rateStored
    split <;> rfl
  refine State.SlipsWf.of_eq ?_ (hrate _)
  exact List.foldlRecOn (motive := State.SlipsWf) _ _ h fun _ ht i _ => State.stationStored_slipsWf ht s i

theorem State.resetBlocks_slipsWf (s : State) : s.resetBlocks.SlipsWf := SlipUnit.afterReset_wf

theorem State.restartNow_slipsWf (h : s.SlipsWf) : s.restartNow.SlipsWf := by
  obtain e | ⟨e, -⟩ := State.restartNow_cases s <;> rw [e]
  · exact h
  · exact State.resetBlocks_slipsWf s

theorem State.enterReset_slipsWf (h : s.SlipsWf) : s.enterReset.SlipsWf := by
  obtain e | ⟨e, -⟩ | ⟨e, -⟩ := State.enterReset_cases s <;> rw [e]
  · exact h
  · exact State.resetBlocks_slipsWf s.repaired
  · exact State.resetBlocks_slipsWf s.repaired

theorem State.resetReleased_slips (s : State) : s.resetReleased.slips = s.slips := by
  unfold State.resetReleased
  dsimp only
  split <;> rfl

theorem State.losePower_slips (s : State) (left : SlotCut) (stored : Bool) : (s.losePower left stored).slips = s.slips := by
  unfold State.losePower
  split <;> rfl

/-! ### Requests and the link (R167 to R182) -/

theorem State.answerPrinter_slipsWf (h : s.SlipsWf) (action : Nat) : (s.answerPrinter action).state.SlipsWf := by
  unfold State.answerPrinter
  split
  · exact SlipUnit.stop_wf h
  · split
    · exact State.resumePrinter_slipsWf h
    · exact h
  · exact SlipUnit.abort_wf h
  · exact State.reprint_slipsWf h
  · exact h

theorem State.answerStationControl_slipsWf (h : s.SlipsWf) (station action mode : Byte) :
    (s.answerStationControl station action mode).state.SlipsWf := by
  unfold State.answerStationControl
  split
  · exact h
  · split
    · split
      · exact State.setMode_slipsWf h _ _
      · exact h
    · split
      · exact State.closeFromOutside_slipsWf h _
      · exact h
    · exact h

theorem State.answerClear_slips (s : State) (mask : BitVec 32) : (s.answerClear mask).state.slips = s.slips := by
  unfold State.answerClear
  split
  · rfl
  · exact State.clearConditions_slips s mask

/-- Only Printer Control and the close that a Station Control brings reach the Slip Unit (R26, R167). -/
theorem State.serve_slipsWf (h : s.SlipsWf) (r : Request) : (s.serve r).state.SlipsWf := by
  cases r with
  | printerControl => exact State.answerPrinter_slipsWf h _
  | stationControl => exact State.answerStationControl_slipsWf h _ _ _
  | clearConditions => exact h.of_eq (State.answerClear_slips ..)
  | readEntry => exact h.of_eq (by rw [State.serve, State.answerReadEntry_state])
  | access | leave | configureRead | journalRead | journalRelease | setCodes | setCodesEmpty | restart => exact h
  | statusRead =>
    simp only [State.serve, State.statusRead]
    split <;> exact h
  | clockSet | clockAdjust | configure =>
    simp only [State.serve, State.answerClockSet, State.answerClockAdjust, State.answerConfigure]
    repeat' split
    all_goals exact h
  | beginTable | loadEntries | endTable | abortLoad =>
    simp only [State.serve, State.answerBeginTable, State.answerLoadEntries, State.answerEndTable, State.answerAbortLoad]
    repeat' split
    all_goals exact h
  | copyTable | commitSet | patchBorrower | patchItem | setProtection =>
    simp only [State.serve, State.answerCopyTable, State.answerCommitSet, State.answerPatch, State.answerSetProtection]
    repeat' split
    all_goals exact h

theorem State.takeFrame_slipsWf (h : s.SlipsWf) (type : Nat) (p : Parsed) : (s.takeFrame type p).SlipsWf := by
  obtain e | ⟨e, -⟩ | ⟨e, -⟩ := State.takeFrame_cases s type p <;> rw [e]
  · exact h
  · exact h.of_eq (State.countLinkError_slips s)
  · obtain ⟨st, ea⟩ | ⟨r, -, -, ea⟩ := State.answer_cases s type p <;> rw [ea]
    · exact h
    · exact State.serve_slipsWf h r

theorem State.linkCharacter_slipsWf (h : s.SlipsWf) (b : Byte) (stop : Bool) : (s.linkCharacter b stop).SlipsWf := by
  have hkept : State.SlipsWf { s with link := (s.link.receive b).1 } := h
  obtain e | e | ⟨e, -⟩ | ⟨e, -⟩ | ⟨type, payload, -, e⟩ := State.linkCharacter_cases s b stop <;> rw [e]
  · exact h
  · exact h
  · exact h
  · exact hkept.of_eq (State.countLinkError_slips _)
  · exact State.takeFrame_slipsWf hkept _ _

theorem State.afterFrame_slipsWf (h : s.SlipsWf) (item : TxItem) : (s.afterFrame item).SlipsWf := by
  unfold State.afterFrame
  split
  · exact h
  · split
    · exact h
    · unfold State.restartSent
      split
      · exact State.restartNow_slipsWf (s := { s with life := .waitRestart, link := { s.link with tx := [] } }) h
      · exact h
    · exact h.of_eq (State.configureSent_slips ..)

theorem State.frameSent_slipsWf (h : s.SlipsWf) : s.frameSent.SlipsWf := by
  unfold State.frameSent
  split
  · exact State.afterFrame_slipsWf (s := { s with link := { s.link with sending := none } }) h _
  · exact h

end

/-! ### Every command -/

theorem slipsWf_of_finish {s t u : State} (h : u.SlipsWf) (e : finish s u = .next t) : t.SlipsWf := by
  rw [finish_next] at e
  cases e
  exact h.of_eq (settle_slips s u)

theorem slipsWf_of_finishStore {s t u : State} (h : u.SlipsWf) (e : finishStore s u = .next t) : t.SlipsWf :=
  slipsWf_of_finish (State.restartNow_slipsWf (h.of_eq (settle_slips s u))) e

/-- A guarded effect keeps the Slip Unit well formed when the effect does. -/
theorem slipsWf_ite {s u : State} {c : Prop} [Decidable c] (h : s.SlipsWf) (hu : u.SlipsWf) : (if c then u else s).SlipsWf := by
  split
  · exact hu
  · exact h

theorem exec_keeps_slipsWf {s t : State} (c : Instr) (h : s.SlipsWf) (e : exec c s = .next t) : t.SlipsWf := by
  cases c with
  | printerByteAccepted =>
    exact slipsWf_of_finish (slipsWf_ite (u := s.byteAccepted) h (SlipUnit.accepted_wf _ _ _ h)) e
  | printerReadyChange ready =>
    exact slipsWf_of_finish
      (slipsWf_ite (s := s.readyPin ready) (u := (s.readyPin ready).portTest) h (State.portTest_slipsWf (s := s.readyPin ready) h)) e
  | printerStallExpiry =>
    refine slipsWf_of_finish ?_ e
    split
    · next hruns => exact SlipUnit.stalled_wf _ h (Bool.and_eq_true_iff.mp hruns).right
    · exact h
  | paperOutChange out =>
    refine slipsWf_of_finish ?_ e
    split
    · exact SlipUnit.test_wf h _ _ _
    · exact h
  | wandCharacterComplete => exact slipsWf_of_finish (slipsWf_ite h (h.of_eq (State.wandComplete_slips ..))) e
  | assemblerStep => exact slipsWf_of_finish (slipsWf_ite h (h.of_eq (State.assemblerStep_slips ..))) e
  | gapTimerExpiry => exact slipsWf_of_finish (slipsWf_ite h (h.of_eq (State.fragment_slips ..))) e
  | selectorChange i level =>
    refine slipsWf_of_finish ?_ e
    split
    · refine State.modeChanged_slipsWf ?_ i _
      exact h
    · exact h
  | arbiterGrant => exact slipsWf_of_finish (State.grant_slipsWf h) e
  | idleTimerExpiry i => exact slipsWf_of_finish (slipsWf_ite h (State.beginClose_slipsWf h i _)) e
  | slipWaitExpiry =>
    refine slipsWf_of_finish ?_ e
    split
    · exact h.of_eq (State.slipSettled_slips ..)
    · exact h
  | slipReoffer i =>
    refine slipsWf_of_finish ?_ e
    split
    · next hoffers _ => exact State.takeWaiting_slipsWf h (Bool.and_eq_true_iff.mp hoffers).right i _
    · exact h
  | journalTurn => exact slipsWf_of_finish (State.turn_slipsWf h) e
  | recordWriteCompletion => exact slipsWf_of_finishStore (State.completeWrite_slipsWf h) e
  | replayEnd => exact slipsWf_of_finish (h.of_eq (State.endReplay_slips s)) e
  | eraseComplete => exact slipsWf_of_finishStore (slipsWf_ite (u := s.eraseDone) h h) e
  | copyEnd =>
    refine slipsWf_of_finish ?_ e
    split <;> exact h
  | validationEnd => exact slipsWf_of_finish (slipsWf_ite h (h.of_eq (State.endValidation_slips s))) e
  | configureStoreComplete =>
    refine slipsWf_of_finishStore ?_ e
    split
    · exact State.configureDone_slipsWf h _
    · exact h
  | linkCharacter b stop => exact slipsWf_of_finish (State.linkCharacter_slipsWf h b stop) e
  | transmitFrameStart => exact slipsWf_of_finish (h.of_eq (State.transmit_slips s)) e
  | transmitFrameEnd => exact slipsWf_of_finish (State.frameSent_slipsWf h) e
  | powerOn => exact slipsWf_of_finish (slipsWf_ite (u := s.powerOn) h (State.resetBlocks_slipsWf s)) e
  | resetLineAssert => exact slipsWf_of_finish (u := s.resetAsserted) h e
  | resetEntered => exact slipsWf_of_finish (State.enterReset_slipsWf h) e
  | resetLineRelease => exact slipsWf_of_finish (h.of_eq (State.resetReleased_slips s)) e
  | powerLoss left stored => exact slipsWf_of_finish (h.of_eq (State.losePower_slips s left stored)) e
  | wandCharacterStart | wandWaitMarkEnd | outcomePatternTimer | outcomePatternEnd | staffWindowExpiry | maintenanceChange | eraseStart
  | timebaseEdge | timebaseLoss | linkGapTimeout | linkWaitMarkEnd | linkBreak | recoveryComplete =>
    exact slipsWf_of_finish (by split <;> exact h) e
  | _ => exact slipsWf_of_finish (State.takeFrame_slipsWf h _ _) e

/-- Settles O56: a command leaves the Slip Unit as it is or goes through operations that keep it within Table 11, and a step is a command or
nothing. -/
theorem stepsKeepSlipUnit : Obligations.StepsKeepSlipUnit := by
  intro s t h e
  unfold step at e
  split at e
  · cases e
    exact h
  · next c rest _ => exact exec_keeps_slipsWf (s := { s with pending := rest }) c h e

end Sys2Proof.Machine
end

section
/-! SUPPORT. The service link stays within Table 12 (R173, R175, R177, R178): each operation of the link keeps it well formed, and everything
else that a command does leaves the receiver and the transmitter as they are. -/

namespace Sys2Proof.Machine

open Config

/-! ### One link (Table 12) -/

theorem Link.startLevel_le (l : Link) : l.startLevel ≤ 2 := by
  unfold Link.startLevel
  repeat' split
  all_goals decide

theorem Link.levelFor_le (l : Link) (code : BitVec 32) : l.levelFor code ≤ 2 := by
  unfold Link.levelFor
  repeat' split
  all_goals decide

theorem Link.afterReset_wf (l : Link) (rate : Nat) : (l.afterReset rate).Wf :=
  ⟨Nat.zero_le _, Nat.zero_le _, l.startLevel_le, Nat.zero_le _, Nat.zero_le _, rfl⟩

theorem Link.notices_of_absent {l : Link} (h : l.noticePresent = false) : l.notices = 0 := by
  obtain ⟨hwaiting, hsending⟩ := Bool.or_eq_false_iff.mp h
  have hnone : (l.tx.filter fun t => t == .notice) = [] := by
    refine List.filter_eq_nil_iff.mpr fun t ht hnotice => ?_
    rw [eq_of_beq hnotice] at ht
    simp [ht] at hwaiting
  unfold Link.notices
  rw [hnone]
  split
  · next hs => simp [hs] at hsending
  · rfl

theorem Link.notices_notice (l : Link) : ({ l with tx := l.tx ++ [.notice] } : Link).notices = l.notices + 1 := by
  simp [Link.notices, List.filter_append, Nat.add_right_comm]

theorem Link.notices_response (l : Link) (f : Frame) : ({ l with tx := l.tx ++ [.response f] } : Link).notices = l.notices := by
  simp [Link.notices, List.filter_append]

theorem Link.responses_response (l : Link) (f : Frame) :
    ({ l with tx := l.tx ++ [.response f] } : Link).responses = l.responses + 1 := by
  simp [Link.responses, List.filter_append]

section
variable {l : Link}

/-- A notice joins the order only where none waits or is being sent (R177). -/
theorem Link.addNotice_wf (h : l.Wf) : l.addNotice.Wf := by
  cases hpresent : l.noticePresent with
  | true => rwa [Link.addNotice_of_present hpresent]
  | false =>
    obtain ⟨hresponses, -, hrest⟩ := h
    rw [Link.addNotice_of_absent hpresent]
    exact ⟨by rwa [Link.responses_notice], by rw [Link.notices_notice, Link.notices_of_absent hpresent], hrest⟩

/-- A response joins the order while fewer than four wait (R175, R176). -/
theorem Link.withResponse_wf (h : l.Wf) (hroom : l.responses < responseDepth) (f : Frame) :
    ({ l with tx := l.tx ++ [.response f] } : Link).Wf := by
  obtain ⟨-, hnotices, hrest⟩ := h
  exact ⟨by rwa [Link.responses_response], by rwa [Link.notices_response], hrest⟩

/-- The first of what waits moves to the line: a response leaves the order, a notice is still present (R176, R177). -/
theorem Link.begin_wf (h : l.Wf) {item : TxItem} {rest : List TxItem} (hidle : l.sending = none) (htx : l.tx = item :: rest)
    (bytes : List Byte) : ({ l with tx := rest, sending := some { item := item, bytes := bytes } } : Link).Wf := by
  obtain ⟨hresponses, hnotices, hrest⟩ := h
  have hfewer : ({ l with tx := rest, sending := some { item := item, bytes := bytes } } : Link).responses ≤ l.responses := by
    rw [Link.responses, Link.responses, htx]
    exact ((List.sublist_cons_self item rest).filter _).length_le
  have hsame : ({ l with tx := rest, sending := some { item := item, bytes := bytes } } : Link).notices = l.notices := by
    rw [Link.notices, Link.notices, htx, hidle]
    cases item <;> rfl
  exact ⟨hfewer.trans hresponses, hsame.trans_le hnotices, hrest⟩

theorem Link.sent_wf (h : l.Wf) : ({ l with sending := none } : Link).Wf := by
  obtain ⟨hresponses, hnotices, hrest⟩ := h
  exact ⟨hresponses, (Nat.le_add_right ..).trans hnotices, hrest⟩

/-- What waits is lost after a Restart response (R182). -/
theorem Link.emptied_wf (h : l.Wf) : ({ l with tx := [] } : Link).Wf := by
  obtain ⟨-, hnotices, hrest⟩ := h
  exact ⟨Nat.zero_le _, Nat.le_trans (Nat.add_le_add_right (Nat.zero_le _) _) hnotices, hrest⟩

theorem Link.withErrors_wf (h : l.Wf) {n : Nat} (hn : n ≤ 65535) : ({ l with errors := n } : Link).Wf := by
  obtain ⟨hresponses, hnotices, haccess, -, hframe⟩ := h
  exact ⟨hresponses, hnotices, haccess, hn, hframe⟩

theorem Link.withAccess_wf (h : l.Wf) {n : Nat} (hn : n ≤ 2) : ({ l with access := n } : Link).Wf := by
  obtain ⟨hresponses, hnotices, -, hrest⟩ := h
  exact ⟨hresponses, hnotices, hn, hrest⟩

/-- A dropped frame leaves no payload, whichever of the states without one the receiver goes to (R173). -/
theorem Link.discard_wf (h : l.Wf) {r : LinkReceiver} (hr : r = .hunt ∨ r = .waitMark ∨ r = .length) : (l.discard r).Wf := by
  obtain ⟨hresponses, hnotices, haccess, herrors, -⟩ := h
  refine ⟨hresponses, hnotices, haccess, herrors, Nat.zero_le _, ?_⟩
  obtain rfl | rfl | rfl := hr <;> rfl

/-- The receiver has as much of the payload as its state says, after every character (R173). -/
theorem Link.receive_frameWf (h : l.frameWf) (b : Byte) : (l.receive b).1.frameWf := by
  obtain ⟨hlength, hkept⟩ := h
  unfold Link.receive
  cases hr : l.receiver <;> simp only [hr] at hkept ⊢
  case hunt =>
    split
    · exact ⟨Nat.zero_le _, rfl⟩
    · exact ⟨hlength, by rwa [hr]⟩
  case length =>
    split
    · next hb => exact ⟨hb, hkept⟩
    · exact ⟨Nat.zero_le _, rfl⟩
  case type =>
    refine ⟨hlength, ?_⟩
    by_cases hempty : l.length = 0
    · simp only [hkept, hempty, if_true, List.length_nil]
    · simp only [if_neg hempty, hkept, List.length_nil]
      exact Nat.pos_of_ne_zero hempty
  case payload =>
    refine ⟨hlength, ?_⟩
    by_cases hmore : l.payload.length + 1 < l.length
    · simpa only [if_pos hmore, List.length_append, List.length_singleton] using hmore
    · simp only [if_neg hmore, List.length_append, List.length_singleton]
      exact Nat.le_antisymm hkept (Nat.not_lt.mp hmore)
  case crcHigh => exact ⟨hlength, hkept⟩
  case crcLow => exact ⟨Nat.zero_le _, rfl⟩
  case waitMark => exact ⟨hlength, by rwa [hr]⟩

/-- A character reaches the frame that arrives alone (R173). -/
theorem Link.receive_keeps (l : Link) (b : Byte) :
    (l.receive b).1.tx = l.tx ∧ (l.receive b).1.sending = l.sending ∧ (l.receive b).1.access = l.access
      ∧ (l.receive b).1.errors = l.errors := by
  unfold Link.receive
  split
  case h_1 | h_2 => split <;> exact ⟨rfl, rfl, rfl, rfl⟩
  all_goals exact ⟨rfl, rfl, rfl, rfl⟩

theorem Link.receive_wf (h : l.Wf) (b : Byte) : (l.receive b).1.Wf := by
  obtain ⟨hresponses, hnotices, haccess, herrors, hframe⟩ := h
  obtain ⟨htx, hsending, haccess', herrors'⟩ := l.receive_keeps b
  have hkept := Link.receive_frameWf hframe b
  refine ⟨?_, ?_, haccess'.trans_le haccess, herrors'.trans_le herrors, hkept⟩
  · rwa [Link.responses, htx]
  · rwa [Link.notices, htx, hsending]

/-- A new rate breaks a frame in progress, or reaches nothing that Table 12 bounds (R172). -/
theorem Link.applyRate_wf (h : l.Wf) (rate : Nat) : (l.applyRate rate).Wf := by
  obtain e | e | e := l.applyRate_cases rate <;> rw [e]
  · exact h
  · exact h
  · exact Link.discard_wf (l := { l with rate := rate, rateReady := false }) h (.inr (.inl rfl))

theorem Link.break_wf (h : l.Wf) : l.break_.Wf := Link.withAccess_wf (Link.discard_wf h (.inr (.inl rfl))) (Nat.zero_le 2)

/-- A receiver in WAIT_MARK that goes to HUNT keeps no payload either (R173). -/
theorem Link.hunting_wf (h : l.Wf) (hr : l.receiver = .waitMark) : ({ l with receiver := .hunt } : Link).Wf := by
  obtain ⟨hresponses, hnotices, haccess, herrors, hlength, hkept⟩ := h
  rw [hr] at hkept
  exact ⟨hresponses, hnotices, haccess, herrors, hlength, hkept⟩

end

/-! ### What reaches the link besides its own line -/

/-- A link whose receiver and transmitter are those of another, and whose access level and error count are in their ranges where the other's
are: all that a request or a command card makes of a link (R42, R178, R182, R189). -/
def Link.LinesKept (l k : Link) : Prop :=
  k.tx = l.tx ∧ k.sending = l.sending ∧ (l.access ≤ 2 → k.access ≤ 2) ∧ (l.errors ≤ 65535 → k.errors ≤ 65535)
    ∧ (l.frameWf → k.frameWf)

section
variable {l k : Link}

theorem Link.linesKept_refl (l : Link) : l.LinesKept l := ⟨rfl, rfl, id, id, id⟩

theorem Link.linesKept_of_eq (e : k = l) : l.LinesKept k := e ▸ l.linesKept_refl

theorem Link.LinesKept.trans {m : Link} (h : l.LinesKept k) (h' : k.LinesKept m) : l.LinesKept m := by
  obtain ⟨htx, hsending, haccess, herrors, hframe⟩ := h
  obtain ⟨htx', hsending', haccess', herrors', hframe'⟩ := h'
  exact ⟨htx'.trans htx, hsending'.trans hsending, haccess' ∘ haccess, herrors' ∘ herrors, hframe' ∘ hframe⟩

theorem Link.LinesKept.responses_eq (h : l.LinesKept k) : k.responses = l.responses := by
  obtain ⟨htx, -⟩ := h
  rw [Link.responses, htx, Link.responses]

theorem Link.LinesKept.wf (h : l.LinesKept k) (hl : l.Wf) : k.Wf := by
  have hsame := h.responses_eq
  obtain ⟨htx, hsending, haccess, herrors, hframe⟩ := h
  obtain ⟨hresponses, hnotices, haccess', herrors', hframe'⟩ := hl
  refine ⟨hsame.trans_le hresponses, ?_, haccess haccess', herrors herrors', hframe hframe'⟩
  rwa [Link.notices, htx, hsending]

end

section
variable (s : State) (i : Station)

theorem State.clearCondition_linesKept (c : Condition) : s.link.LinesKept (s.clearCondition c).link := by
  unfold State.clearCondition
  dsimp only
  split
  · exact s.link.linesKept_refl
  · exact ⟨rfl, rfl, id, fun _ => Nat.zero_le _, id⟩
  · exact s.link.linesKept_refl

theorem State.clearConditions_linesKept (mask : BitVec 32) : s.link.LinesKept (s.clearConditions mask).link := by
  have hfold : s.link.LinesKept
      (((Condition.all.filter fun c => mask.getLsbD c.bit).foldl State.clearCondition s).link) :=
    List.foldlRecOn (motive := fun t : State => s.link.LinesKept t.link) _ _ s.link.linesKept_refl
      fun t ht c _ => ht.trans (t.clearCondition_linesKept c)
  unfold State.clearConditions
  dsimp only
  split <;> exact hfold

/-! #### The arbiter's grant: a command card may clear the error count (R42) -/

theorem State.command_linesKept (n : Nat) : s.link.LinesKept (s.command i n).link := by
  unfold State.command
  split
  case h_7 =>
    refine (s.clearConditions_linesKept allLatched).trans (Link.linesKept_of_eq ?_)
    exact State.display_link ..
  case h_1 =>
    split
    all_goals exact Link.linesKept_of_eq (by simp)
  all_goals exact Link.linesKept_of_eq (by simp)

theorem State.commandCard_linesKept (n : Nat) : s.link.LinesKept (s.commandCard i n).link := by
  unfold State.commandCard
  split
  · exact State.command_linesKept (s.onSession i fun x => { x with window := none }) i n
  · exact Link.linesKept_of_eq (State.display_link ..)

theorem State.grantIdle_linesKept (scan : ScanRecord) : s.link.LinesKept (s.grantIdle i scan).link := by
  unfold State.grantIdle
  dsimp only
  split
  case h_4 => exact (Link.linesKept_of_eq (State.takeScan_link ..)).trans (State.commandCard_linesKept ..)
  case h_1 | h_2 =>
    split
    all_goals exact Link.linesKept_of_eq (by simp)
  all_goals exact Link.linesKept_of_eq (by simp)

theorem State.grantOpen_linesKept (scan : ScanRecord) : s.link.LinesKept (s.grantOpen i scan).link := by
  unfold State.grantOpen
  split
  case h_4 => exact (Link.linesKept_of_eq (State.takeScan_link ..)).trans (State.commandCard_linesKept ..)
  case h_2 =>
    split
    all_goals exact Link.linesKept_of_eq (by simp)
  all_goals exact Link.linesKept_of_eq (by simp)

theorem State.grant_linesKept : s.link.LinesKept s.grant.link := by
  unfold State.grant
  split
  · split
    · exact s.link.linesKept_refl
    · next i _ =>
      split
      · exact s.link.linesKept_refl
      · dsimp only
        split
        · exact State.grantIdle_linesKept { s with lastGranted := i } i _
        · exact State.grantOpen_linesKept { s with lastGranted := i } i _
        · exact s.link.linesKept_refl
  · exact s.link.linesKept_refl

/-! #### What a request does (R42, R175) -/

theorem State.answerStationControl_link (station action mode : Byte) :
    (s.answerStationControl station action mode).state.link = s.link := by
  unfold State.answerStationControl
  repeat' split
  all_goals simp [State.done, State.deny]

theorem State.answerPrinter_link (action : Nat) : (s.answerPrinter action).state.link = s.link := by
  unfold State.answerPrinter
  split
  · rfl
  · split
    · exact State.resumePrinter_link s
    · rfl
  · rfl
  · exact State.reprint_link s
  · rfl

theorem State.answerClear_linesKept (mask : BitVec 32) : s.link.LinesKept (s.answerClear mask).state.link := by
  unfold State.answerClear
  split
  · exact s.link.linesKept_refl
  · exact s.clearConditions_linesKept mask

/-- A request changes of its own link the access level, the codes, the error count and the mark of a Restart alone (R178, R182, R183, R189). -/
theorem State.serve_linesKept (r : Request) : s.link.LinesKept (s.serve r).state.link := by
  cases r with
  | access code => exact ⟨rfl, rfl, fun _ => s.link.levelFor_le code, id, id⟩
  | leave => exact ⟨rfl, rfl, fun _ => Nat.zero_le _, id, id⟩
  | setCodes | restart => exact ⟨rfl, rfl, id, id, id⟩
  | clearConditions => exact State.answerClear_linesKept ..
  | stationControl => exact Link.linesKept_of_eq (State.answerStationControl_link ..)
  | printerControl => exact Link.linesKept_of_eq (State.answerPrinter_link ..)
  | readEntry => exact Link.linesKept_of_eq (by rw [State.serve, State.answerReadEntry_state])
  | configureRead | journalRead | journalRelease | setCodesEmpty => exact s.link.linesKept_refl
  | statusRead =>
    simp only [State.serve, State.statusRead]
    split <;> exact s.link.linesKept_refl
  | clockSet | clockAdjust | configure =>
    simp only [State.serve, State.answerClockSet, State.answerClockAdjust, State.answerConfigure]
    repeat' split
    all_goals exact s.link.linesKept_refl
  | beginTable | loadEntries | endTable | abortLoad =>
    simp only [State.serve, State.answerBeginTable, State.answerLoadEntries, State.answerEndTable, State.answerAbortLoad]
    repeat' split
    all_goals exact s.link.linesKept_refl
  | copyTable | commitSet | patchBorrower | patchItem | setProtection =>
    simp only [State.serve, State.answerCopyTable, State.answerCommitSet, State.answerPatch, State.answerSetProtection]
    repeat' split
    all_goals exact s.link.linesKept_refl

end

/-! ### The state's link -/

/-- The state's link stays within Table 12. -/
abbrev State.LinkWf (s : State) : Prop := s.link.Wf

theorem State.LinkWf.of_eq {s t : State} (h : s.LinkWf) (e : t.link = s.link) : t.LinkWf := by
  rwa [State.LinkWf, e]

section
variable {s : State}

theorem settle_linkWf (h : s.LinkWf) (before : State) : (settle before s).LinkWf := by
  unfold settle
  split
  · exact Link.addNotice_wf h
  · exact h

/-- The error count is held at its top (R173). -/
theorem State.countLinkError_linkWf (h : s.LinkWf) : s.countLinkError.LinkWf := by
  have hcounted := Link.withErrors_wf h (Nat.min_le_left 65535 (s.link.errors + 1))
  unfold State.countLinkError
  dsimp only
  split <;> exact hcounted

/-! #### Turns, completions and the configuration record (R133 to R136, R172, R184) -/

theorem State.completeWrite_link (s : State) : s.completeWrite.link = s.link := by
  unfold State.completeWrite
  split
  · exact State.ownerEffects_link ..
  · rfl

theorem State.endReplay_link (s : State) : s.endReplay.link = s.link := by
  unfold State.endReplay
  dsimp only
  repeat' split
  all_goals rfl

theorem State.stationStored_link (old s : State) (i : Station) : (State.stationStored old s i).link = s.link := by
  unfold State.stationStored State.lineChanged
  rw [State.modeChanged_link]
  split <;> rfl

theorem State.configureDone_linkWf (h : s.LinkWf) (c : ConfigRecord) : (s.configureDone c).LinkWf := by
  have hstations : ∀ t : State, t.LinkWf → t.rateStored.LinkWf := fun t ht => by
    unfold State.rateStored
    split
    · exact Link.applyRate_wf ht _
    · exact ht
  refine hstations _ ?_
  exact List.foldlRecOn (motive := State.LinkWf) _ _ h fun t ht i _ => ht.of_eq (State.stationStored_link s t i)

/-! #### Starts and a power loss (R172, R178, R192) -/

theorem State.resetBlocks_linkWf (s : State) : s.resetBlocks.LinkWf := Link.afterReset_wf ..

theorem State.restartNow_linkWf (h : s.LinkWf) : s.restartNow.LinkWf := by
  obtain e | ⟨e, -⟩ := State.restartNow_cases s <;> rw [e]
  · exact h
  · exact State.resetBlocks_linkWf s

theorem State.enterReset_linkWf (h : s.LinkWf) : s.enterReset.LinkWf := by
  obtain e | ⟨e, -⟩ | ⟨e, -⟩ := State.enterReset_cases s <;> rw [e]
  · exact h
  · exact State.resetBlocks_linkWf s.repaired
  · exact State.resetBlocks_linkWf s.repaired

theorem State.resetReleased_link (s : State) : s.resetReleased.link = s.link := by
  unfold State.resetReleased
  dsimp only
  split <;> rfl

theorem State.losePower_link (s : State) (left : SlotCut) (stored : Bool) : (s.losePower left stored).link = s.link := by
  unfold State.losePower
  split <;> rfl

/-! #### The incoming line (R173 to R176) -/

/-- A frame is answered only while fewer than four responses wait (R175). -/
theorem State.takeFrame_linkWf (h : s.LinkWf) (type : Nat) (p : Parsed) : (s.takeFrame type p).LinkWf := by
  obtain e | ⟨e, -⟩ | ⟨e, -, -, hroom, -⟩ := State.takeFrame_cases s type p <;> rw [e]
  · exact h
  · exact State.countLinkError_linkWf h
  · have hanswer : s.link.LinesKept (s.answer type p).state.link := by
      obtain ⟨st, ea⟩ | ⟨r, -, -, ea⟩ := State.answer_cases s type p <;> rw [ea]
      · exact s.link.linesKept_refl
      · exact s.serve_linesKept r
    exact Link.withResponse_wf (hanswer.wf h) (hanswer.responses_eq.trans_lt hroom) _

theorem State.linkCharacter_linkWf (h : s.LinkWf) (b : Byte) (stop : Bool) : (s.linkCharacter b stop).LinkWf := by
  have hreceived : State.LinkWf { s with link := (s.link.receive b).1 } := Link.receive_wf h b
  obtain e | e | ⟨e, -⟩ | ⟨e, -⟩ | ⟨type, payload, -, e⟩ := State.linkCharacter_cases s b stop <;> rw [e]
  · exact h
  · exact Link.discard_wf h (.inr (.inl rfl))
  · exact hreceived
  · exact State.countLinkError_linkWf hreceived
  · exact State.takeFrame_linkWf hreceived _ _

/-! #### The outgoing line (R172, R176, R182) -/

theorem State.transmit_linkWf (h : s.LinkWf) : s.transmit.LinkWf := by
  unfold State.transmit
  split
  · next hidle =>
    have hsending : s.link.sending = none := Option.isNone_iff_eq_none.mp (Bool.and_eq_true_iff.mp hidle).right
    split
    · exact h
    · next item rest htx => exact Link.begin_wf h hsending htx _
  · exact h

theorem State.configureSent_linkWf (h : s.LinkWf) (rate : Nat) : (s.configureSent rate).LinkWf := by
  unfold State.configureSent
  split
  · exact Link.applyRate_wf h rate
  · exact h

theorem State.restartSent_linkWf (h : s.LinkWf) : s.restartSent.LinkWf := by
  unfold State.restartSent
  split
  · exact State.restartNow_linkWf (s := { s with life := .waitRestart, link := { s.link with tx := [] } }) (Link.emptied_wf h)
  · exact h

theorem State.afterFrame_linkWf (h : s.LinkWf) (item : TxItem) : (s.afterFrame item).LinkWf := by
  unfold State.afterFrame
  split
  · exact h
  · split
    · exact h
    · exact State.restartSent_linkWf h
    · exact State.configureSent_linkWf h _

theorem State.frameSent_linkWf (h : s.LinkWf) : s.frameSent.LinkWf := by
  unfold State.frameSent
  split
  · exact State.afterFrame_linkWf (s := { s with link := { s.link with sending := none } }) (Link.sent_wf h) _
  · exact h

end

/-! ### Every command -/

theorem linkWf_of_finish {s t u : State} (h : u.LinkWf) (e : finish s u = .next t) : t.LinkWf := by
  rw [finish_next] at e
  cases e
  exact settle_linkWf h s

theorem linkWf_of_finishStore {s t u : State} (h : u.LinkWf) (e : finishStore s u = .next t) : t.LinkWf :=
  linkWf_of_finish (State.restartNow_linkWf (settle_linkWf h s)) e

/-- A guarded effect keeps the link well formed when the effect does. -/
theorem linkWf_ite {s u : State} {c : Prop} [Decidable c] (h : s.LinkWf) (hu : u.LinkWf) : (if c then u else s).LinkWf := by
  split
  · exact hu
  · exact h

theorem exec_keeps_linkWf {s t : State} (c : Instr) (h : s.LinkWf) (e : exec c s = .next t) : t.LinkWf := by
  cases c with
  | wandCharacterComplete => exact linkWf_of_finish (linkWf_ite h (h.of_eq (State.wandComplete_link ..))) e
  | assemblerStep => exact linkWf_of_finish (linkWf_ite h (h.of_eq (State.assemblerStep_link ..))) e
  | gapTimerExpiry => exact linkWf_of_finish (linkWf_ite h (h.of_eq (State.fragment_link ..))) e
  | selectorChange i level =>
    exact linkWf_of_finish (linkWf_ite (s := s.selectorPin i level) (u := (s.selectorPin i level).selectorMoved i level) h
      (h.of_eq (State.modeChanged_link ..))) e
  | arbiterGrant => exact linkWf_of_finish (s.grant_linesKept.wf h) e
  | idleTimerExpiry => exact linkWf_of_finish (linkWf_ite h (h.of_eq (State.beginClose_link ..))) e
  | slipWaitExpiry =>
    refine linkWf_of_finish ?_ e
    split
    · exact h.of_eq (State.slipSettled_link ..)
    · exact h
  | slipReoffer =>
    refine linkWf_of_finish ?_ e
    split
    · exact h.of_eq (State.slipSettled_link ..)
    · exact h
  | journalTurn => exact linkWf_of_finish (h.of_eq (State.turn_link s)) e
  | recordWriteCompletion => exact linkWf_of_finishStore (h.of_eq (State.completeWrite_link s)) e
  | replayEnd => exact linkWf_of_finish (h.of_eq (State.endReplay_link s)) e
  | eraseComplete => exact linkWf_of_finishStore (linkWf_ite (u := s.eraseDone) h h) e
  | copyEnd =>
    refine linkWf_of_finish ?_ e
    split <;> exact h
  | validationEnd => exact linkWf_of_finish (linkWf_ite h (h.of_eq (State.endValidation_link s))) e
  | configureStoreComplete =>
    refine linkWf_of_finishStore ?_ e
    split
    · exact State.configureDone_linkWf h _
    · exact h
  | linkCharacter b stop => exact linkWf_of_finish (State.linkCharacter_linkWf h b stop) e
  | linkGapTimeout =>
    exact linkWf_of_finish (linkWf_ite (u := { s with link := s.link.discard .hunt }) h (Link.discard_wf h (.inl rfl))) e
  | linkWaitMarkEnd =>
    refine linkWf_of_finish ?_ e
    split
    · next hmark => exact Link.hunting_wf h (eq_of_beq (Bool.and_eq_true_iff.mp hmark).right)
    · exact h
  | linkBreak => exact linkWf_of_finish (linkWf_ite (u := { s with link := s.link.break_ }) h (Link.break_wf h)) e
  | transmitFrameStart => exact linkWf_of_finish (State.transmit_linkWf h) e
  | transmitFrameEnd => exact linkWf_of_finish (State.frameSent_linkWf h) e
  | powerOn => exact linkWf_of_finish (linkWf_ite (u := s.powerOn) h (State.resetBlocks_linkWf s)) e
  | resetLineAssert => exact linkWf_of_finish (u := s.resetAsserted) h e
  | resetEntered => exact linkWf_of_finish (State.enterReset_linkWf h) e
  | resetLineRelease => exact linkWf_of_finish (h.of_eq (State.resetReleased_link s)) e
  | powerLoss left stored => exact linkWf_of_finish (h.of_eq (State.losePower_link s left stored)) e
  | wandCharacterStart | wandWaitMarkEnd | outcomePatternTimer | outcomePatternEnd | staffWindowExpiry | paperOutChange
  | maintenanceChange | eraseStart | timebaseEdge | timebaseLoss | printerByteAccepted | printerReadyChange | printerStallExpiry
  | recoveryComplete =>
    exact linkWf_of_finish (by split <;> exact h) e
  | _ => exact linkWf_of_finish (State.takeFrame_linkWf h _ _) e

/-- Settles O57: a command leaves the link or its two lines as they are, or is one of the link's own that keep it within Table 12, and a step is a
command or nothing. -/
theorem stepsKeepLink : Obligations.StepsKeepLink := by
  intro s t h e
  unfold step at e
  split at e
  · cases e
    exact h
  · next c rest _ => exact exec_keeps_linkWf (s := { s with pending := rest }) c h e

end Sys2Proof.Machine
end

section
/-! SUPPORT. The link receiver (R173, R174): what a character brings in each of its states, and the commands of the incoming line. -/

namespace Sys2Proof.Machine

/-! ### A character by the receiver's state (R173) -/

section
variable {l : Link} {b : Byte}

theorem Link.receive_of_start (hr : l.receiver = .hunt) (hb : b = 0xA5) :
    l.receive b = ({ l.discard .length with crc := crcInit }, .nothing) := by
  simp only [Link.receive, hr, hb, if_true]

theorem Link.receive_of_hunt (hr : l.receiver = .hunt) (hb : b ≠ 0xA5) : l.receive b = (l, .nothing) := by
  simp only [Link.receive, hr, hb, if_false]

theorem Link.receive_of_length (hr : l.receiver = .length) (hb : b.toNat ≤ 240) :
    l.receive b = ({ l with receiver := .type, length := b.toNat, crc := crcByte l.crc b }, .nothing) := by
  simp only [Link.receive, hr, hb, if_true]

theorem Link.receive_of_long (hr : l.receiver = .length) (hb : 240 < b.toNat) : l.receive b = (l.discard .hunt, .error) := by
  simp only [Link.receive, hr, if_neg (Nat.not_le.mpr hb)]

theorem Link.receive_of_type (hr : l.receiver = .type) :
    l.receive b
      = ({ l with receiver := if l.length = 0 then .crcHigh else .payload, type := b.toNat, crc := crcByte l.crc b }, .nothing) := by
  simp only [Link.receive, hr]

theorem Link.receive_of_payload (hr : l.receiver = .payload) :
    l.receive b
      = ({ l with receiver := if l.payload.length + 1 < l.length then .payload else .crcHigh, payload := l.payload ++ [b],
                  crc := crcByte l.crc b }, .nothing) := by
  simp only [Link.receive, hr]

theorem Link.receive_of_crcHigh (hr : l.receiver = .crcHigh) :
    l.receive b = ({ l with receiver := .crcLow, crcHigh := b.toNat }, .nothing) := by
  simp only [Link.receive, hr]

theorem Link.receive_of_agreeing (hr : l.receiver = .crcLow) (hcrc : l.crcHigh * 256 + b.toNat = l.crc) :
    l.receive b = (l.discard .hunt, .frame l.type l.payload) := by
  simp only [Link.receive, hr, hcrc, if_true]

theorem Link.receive_of_differing (hr : l.receiver = .crcLow) (hcrc : l.crcHigh * 256 + b.toNat ≠ l.crc) :
    l.receive b = (l.discard .hunt, .error) := by
  simp only [Link.receive, hr, if_neg hcrc]

end

section
variable {s : State}

theorem exec_linkCharacter (s : State) (b : Byte) (stop : Bool) :
    exec (.linkCharacter b stop) s = .next (settle s (s.linkCharacter b stop)) := rfl

theorem State.linkCharacter_broken (hrun : s.running = true) (hshut : s.link.shut = false) (b : Byte) :
    s.linkCharacter b false = { s with link := s.link.discard .waitMark } := by
  simp [State.linkCharacter, hrun, hshut]

section
variable (hrun : s.running = true) (hshut : s.link.shut = false) {b : Byte} {l : Link}
include hrun hshut

theorem State.linkCharacter_of_nothing (h : s.link.receive b = (l, .nothing)) : s.linkCharacter b true = { s with link := l } := by
  simp [State.linkCharacter, hrun, hshut, h]

theorem State.linkCharacter_of_error (h : s.link.receive b = (l, .error)) :
    s.linkCharacter b true = State.countLinkError { s with link := l } := by
  simp [State.linkCharacter, hrun, hshut, h]

theorem State.linkCharacter_of_frame {type : Nat} {payload : List Byte} (h : s.link.receive b = (l, .frame type payload)) :
    s.linkCharacter b true = State.takeFrame { s with link := l } type (parseRequest type payload) := by
  simp [State.linkCharacter, hrun, hshut, h]

end

theorem exec_linkGapTimeout (hrun : s.running = true) (hframe : s.link.receiver ≠ .hunt) (hmark : s.link.receiver ≠ .waitMark) :
    exec .linkGapTimeout s = .next (settle s { s with link := s.link.discard .hunt }) := by
  have hin : s.link.receiver.inFrame = true := by
    cases hr : s.link.receiver with
    | hunt => exact absurd hr hframe
    | waitMark => exact absurd hr hmark
    | length | type | payload | crcHigh | crcLow => rfl
  exact congrArg (finish s) (if_pos (by rw [hrun, hin]; rfl))

theorem exec_linkWaitMarkEnd (hrun : s.running = true) (hmark : s.link.receiver = .waitMark) :
    exec .linkWaitMarkEnd s = .next (settle s { s with link := { s.link with receiver := .hunt } }) :=
  congrArg (finish s) (if_pos (by rw [hrun, hmark]; rfl))

theorem exec_linkBreak (hrun : s.running = true) : exec .linkBreak s = .next (settle s { s with link := s.link.break_ }) :=
  congrArg (finish s) (if_pos hrun)

end

/-- Settles O34: a character by what it brings in each state of the receiver, and the line's other three commands. -/
theorem linkReceiverFollowsTable : Obligations.LinkReceiverFollowsTable := by
  constructor
  · intro s b hrun hshut l on dropped result
    have hnothing : ∀ {k : Link}, l.receive b = (k, .nothing) → result = on k := fun h =>
      congrArg (finish s) (State.linkCharacter_of_nothing hrun hshut h)
    have herror : ∀ {k : Link}, l.receive b = (k, .error) → result = .next (settle s (State.countLinkError { s with link := k })) :=
      fun h => congrArg (finish s) (State.linkCharacter_of_error hrun hshut h)
    refine ⟨congrArg (finish s) (State.linkCharacter_broken hrun hshut b), fun hr hb => hnothing (Link.receive_of_start hr hb),
      fun hr hb => hnothing (Link.receive_of_hunt hr hb), fun hr hb => hnothing (Link.receive_of_length hr hb),
      fun hr hb => herror (Link.receive_of_long hr hb), fun hr => hnothing (Link.receive_of_type hr),
      fun hr => hnothing (Link.receive_of_payload hr), fun hr => hnothing (Link.receive_of_crcHigh hr),
      fun hr hcrc => herror (Link.receive_of_differing hr hcrc), fun hr hcrc => ?_⟩
    exact congrArg (finish s) (State.linkCharacter_of_frame hrun hshut (Link.receive_of_agreeing hr hcrc))
  · intro s hrun l dropped
    exact ⟨exec_linkGapTimeout hrun, exec_linkWaitMarkEnd hrun, exec_linkBreak hrun⟩

end Sys2Proof.Machine
end

section
/-! SUPPORT. A frame sent whole to a receiver in HUNT (R173, R185, Table 13): the register's 16 bits, and the frame's bytes one after
another. -/

namespace Sys2Proof.Machine

/-! ### The CRC (R185) -/

theorem crcBit_lt {crc : Nat} (h : crc < 65536) : crcBit crc < 65536 := by
  unfold crcBit
  split
  · omega
  · exact Nat.xor_lt_two_pow (n := 16) (by omega) (by decide)

theorem crcByte_lt {crc : Nat} (h : crc < 65536) (b : Byte) : crcByte crc b < 65536 := by
  have hbyte : Nat.xor crc (b.toNat * 256) < 65536 := Nat.xor_lt_two_pow (n := 16) h (by omega)
  exact crcBit_lt <| crcBit_lt <| crcBit_lt <| crcBit_lt <| crcBit_lt <| crcBit_lt <| crcBit_lt <| crcBit_lt hbyte

/-- The register holds 16 bits. -/
theorem crc16_lt (bs : List Byte) : crc16 bs < 65536 :=
  List.foldlRecOn (motive := (· < 65536)) _ _ (by decide) fun _ h b _ => crcByte_lt h b

theorem crcOver_nil (crc : Nat) : crcOver crc [] = crc := List.foldl_nil

theorem crcOver_cons (crc : Nat) (b : Byte) (rest : List Byte) : crcOver crc (b :: rest) = crcOver (crcByte crc b) rest :=
  List.foldl_cons ..

/-! ### A frame sent whole (Table 13) -/

theorem toNat_byte {n : Nat} (h : n < 256) : (byte n).toNat = n := by
  rw [byte, BitVec.toNat_ofNat]
  exact Nat.mod_eq_of_lt h

/-- The state with another link. -/
def State.withLink (s : State) (l : Link) : State := { s with link := l }

theorem State.withLink_self (s : State) : s.withLink s.link = s := rfl

theorem State.receiveAll_cons (s : State) (b : Byte) (rest : List Byte) :
    s.receiveAll (b :: rest) = (s.linkCharacter b true).receiveAll rest := rfl

section
variable {s : State} {l : Link}

/-- A character that brings nothing besides the receiver's next state is followed by the rest. -/
theorem State.receiveAll_of_nothing {b : Byte} {k : Link} (h : l.receive b = (k, .nothing)) (hrun : s.running = true)
    (hshut : l.shut = false) (rest : List Byte) : (s.withLink l).receiveAll (b :: rest) = (s.withLink k).receiveAll rest := by
  rw [State.receiveAll_cons, State.linkCharacter_of_nothing (s := s.withLink l) hrun hshut h]
  rfl

/-- A last character that brings a frame ends in its being taken. -/
theorem State.receiveAll_of_frame {b : Byte} {k : Link} {type : Nat} {payload : List Byte}
    (h : l.receive b = (k, .frame type payload)) (hrun : s.running = true) (hshut : l.shut = false) :
    (s.withLink l).receiveAll [b] = State.takeFrame (s.withLink k) type (parseRequest type payload) :=
  State.linkCharacter_of_frame (s := s.withLink l) hrun hshut h

/-- The link with a frame in progress: the receiver's state, and the length, type, payload and running CRC it has so far (R173). -/
def Link.framing (l : Link) (r : LinkReceiver) (length type : Nat) (payload : List Byte) (crc : Nat) : Link :=
  { l with receiver := r, length := length, type := type, payload := payload, crc := crc, crcHigh := 0 }

/-- The link with a frame in progress whose length and type have arrived, and so much of its payload (R173). -/
def Link.collecting (l : Link) (length type : Nat) (received : List Byte) (crc : Nat) : Link :=
  l.framing (if received.length < length then .payload else .crcHigh) length type received crc

theorem Link.receive_collecting {length : Nat} {received : List Byte} (hmore : received.length < length) (type crc : Nat) (b : Byte) :
    (l.collecting length type received crc).receive b
      = (l.collecting length type (received ++ [b]) (crcByte crc b), .nothing) := by
  have hr : (l.collecting length type received crc).receiver = .payload := if_pos hmore
  have hlength : (received ++ [b]).length = received.length + 1 := by simp
  rw [Link.receive_of_payload hr, Link.collecting, Link.collecting, hlength]
  rfl

theorem Link.receive_type (l : Link) (length crc : Nat) (b : Byte) :
    (l.framing .type length 0 [] crc).receive b = (l.collecting length b.toNat [] (crcByte crc b), .nothing) := by
  have h := Link.receive_of_type (l := l.framing .type length 0 [] crc) (b := b) rfl
  have hr : (if length = 0 then LinkReceiver.crcHigh else .payload) = if 0 < length then .payload else .crcHigh := by
    cases length <;> rfl
  rw [Link.collecting, List.length_nil, ← hr]
  exact h

/-- A frame's start byte, length and type arrive (R173). -/
theorem State.receiveAll_header (hrun : s.running = true) (hshut : l.shut = false) (hr : l.receiver = .hunt) {n : Nat} (hn : n ≤ 240)
    (type : Byte) (rest : List Byte) :
    (s.withLink l).receiveAll (0xA5 :: byte n :: type :: rest)
      = (s.withLink (l.collecting n type.toNat [] (crcByte (crcByte crcInit (byte n)) type))).receiveAll rest := by
  have hcount : (byte n).toNat = n := toNat_byte (by omega)
  have hstart : l.receive 0xA5 = (l.framing .length 0 0 [] crcInit, .nothing) := Link.receive_of_start hr rfl
  have hlength : (l.framing .length 0 0 [] crcInit).receive (byte n) = (l.framing .type n 0 [] (crcByte crcInit (byte n)), .nothing) := by
    rw [Link.receive_of_length rfl (hcount.trans_le hn), hcount]
    rfl
  rw [State.receiveAll_of_nothing hstart hrun hshut, State.receiveAll_of_nothing hlength hrun hshut,
    State.receiveAll_of_nothing (l.receive_type n _ type) hrun hshut]

/-- The rest of a payload arrives, the register running on over it. -/
theorem State.receiveAll_payload (hrun : s.running = true) (hshut : l.shut = false) {length : Nat} {received left : List Byte}
    (hlength : length = received.length + left.length) (type crc : Nat) (rest : List Byte) :
    (s.withLink (l.collecting length type received crc)).receiveAll (left ++ rest)
      = (s.withLink (l.collecting length type (received ++ left) (crcOver crc left))).receiveAll rest := by
  induction left generalizing received crc with
  | nil => rw [List.nil_append, List.append_nil, crcOver_nil]
  | cons b left ih =>
    rw [List.length_cons] at hlength
    have hmore : received.length < length := by omega
    have hnext : length = (received ++ [b]).length + left.length := by
      rw [List.length_append, List.length_singleton]
      omega
    rw [List.cons_append, State.receiveAll_of_nothing (Link.receive_collecting hmore type crc b) hrun hshut, ih hnext, crcOver_cons,
      List.append_assoc, List.singleton_append]

/-- The two CRC bytes arrive, and agree with the register (R173, R185). -/
theorem State.receiveAll_crc (hrun : s.running = true) (hshut : l.shut = false) (type : Nat) (payload : List Byte) {crc : Nat}
    (hcrc : crc < 65536) :
    (s.withLink (l.collecting payload.length type payload crc)).receiveAll (beBytes 2 crc)
      = State.takeFrame (s.withLink (l.discard .hunt)) type (parseRequest type payload) := by
  have hr : (l.collecting payload.length type payload crc).receiver = .crcHigh := if_neg (Nat.lt_irrefl _)
  have hbytes : beBytes 2 crc = [byte (crc / 256), byte crc] := by simp [beBytes, byte]
  have hagree : (byte (crc / 256)).toNat * 256 + (byte crc).toNat = crc := by
    rw [toNat_byte (by omega), byte, BitVec.toNat_ofNat]
    omega
  have hlast :
      ({ l.collecting payload.length type payload crc with
          receiver := .crcLow, crcHigh := (byte (crc / 256)).toNat } : Link).receive (byte crc)
        = (l.discard .hunt, .frame type payload) := Link.receive_of_agreeing rfl hagree
  rw [hbytes, State.receiveAll_of_nothing (Link.receive_of_crcHigh hr) hrun hshut]
  exact State.receiveAll_of_frame hlast hrun hshut

end

theorem frameBytes_eq (type : Byte) (payload : List Byte) :
    frameBytes type.toNat payload
      = 0xA5 :: byte payload.length :: type :: (payload ++ beBytes 2 (crc16 (frameBody type.toNat payload))) := by
  simp [frameBytes, frameBody, byte_toNat]

/-- The CRC of a frame, as the receiver's register runs over its bytes (R185). -/
theorem crc16_frameBody (type : Byte) (payload : List Byte) :
    crc16 (frameBody type.toNat payload) = crcOver (crcByte (crcByte crcInit (byte payload.length)) type) payload := by
  rw [frameBody, byte_toNat, crc16, crcOver_cons, crcOver_cons]

/-- Settles O36: the frame's start, length and type, then its payload by induction, then its CRC. -/
theorem frameArrivesWhole : Obligations.FrameArrivesWhole := by
  intro s type payload hrun hshut hr hlength
  have hheader := State.receiveAll_header (s := s) hrun hshut hr hlength type
  rw [State.withLink_self] at hheader
  have hdropped : s.link.discard .hunt = { s.link with length := 0, type := 0, payload := [], crc := 0, crcHigh := 0 } := by
    rw [← hr]
    rfl
  rw [frameBytes_eq, hheader, State.receiveAll_payload hrun hshut (Nat.zero_add _).symm, ← crc16_frameBody, List.nil_append,
    State.receiveAll_crc hrun hshut _ _ (crc16_lt _), hdropped]
  rfl

end Sys2Proof.Machine
end

section
/-! SUPPORT. The transmitter (R172, R176, R177, R182): what begins to be sent, and what the end of a frame brings. -/

namespace Sys2Proof.Machine

section
variable {s : State}

/-! ### A frame begun (R176, R177) -/

theorem exec_transmitFrameStart (s : State) : exec .transmitFrameStart s = .next (settle s s.transmit) := rfl

/-- Nothing more is sent once a part waits for its Restart (R182). -/
theorem State.transmit_of_waiting (hlife : s.life = .waitRestart) : s.transmit = s := by
  simp [State.transmit, hlife]

theorem State.transmit_of_first (hrun : s.running = true) (hlife : s.life ≠ .waitRestart) (hidle : s.link.sending = none)
    {item : TxItem} {rest : List TxItem} (htx : s.link.tx = item :: rest) :
    s.transmit = { s with link := { s.link with tx := rest, sending := some { item := item, bytes := s.txBytes item } } } := by
  simp [State.transmit, hrun, hlife, hidle, htx]

/-! ### A frame's end (R172, R182) -/

/-- The state with an idle transmitter (R176). -/
def State.transmitterIdle (s : State) : State := { s with link := { s.link with sending := none } }

theorem State.frameSent_of_sending (hrun : s.running = true) {item : TxItem} {bytes : List Byte}
    (hsending : s.link.sending = some { item := item, bytes := bytes }) :
    s.frameSent = s.transmitterIdle.afterFrame item := by
  simp only [State.frameSent, hrun, hsending]
  rfl

theorem State.afterFrame_plain {f : Frame} (htag : f.tag = .plain) : s.afterFrame (.response f) = s := by
  simp only [State.afterFrame, htag]

theorem State.afterFrame_configure {f : Frame} {rate : Nat} (htag : f.tag = .configure rate) (hstored : s.configStore = none) :
    s.afterFrame (.response f) = { s with link := s.link.applyRate rate } := by
  simp only [State.afterFrame, htag, State.configureSent, hstored, Option.isNone_none, Bool.true_or, if_true]

/-- A Restart waits for what is being stored (R182, R192). -/
theorem State.afterFrame_restart_of_storing {f : Frame} (htag : f.tag = .restart) (hlife : s.life = .on) (hstoring : s.storing ≠ false) :
    s.afterFrame (.response f) = { s with life := .waitRestart, link := { s.link with tx := [] } } := by
  have hwaits : State.storing { s with life := .waitRestart, link := { s.link with tx := [] } } = true :=
    Bool.eq_true_of_not_eq_false hstoring
  simp only [State.afterFrame, htag, State.restartSent, hlife, if_true, State.restartNow, hwaits]
  rfl

end

/-- Settles O35: what begins by the first of what waits, and a frame's end by its tag. -/
theorem transmitterSendsInOrder : Obligations.TransmitterSendsInOrder := by
  intro s hrun
  refine ⟨fun hlife => ?_, fun f rest hlife hidle htx => ?_, fun rest hlife hidle htx => ?_, fun bytes hsending => ?_,
    fun f bytes hsending => ?_⟩
  · rw [exec_transmitFrameStart, State.transmit_of_waiting hlife, settle_self]
  · rw [exec_transmitFrameStart, State.transmit_of_first hrun hlife hidle htx]
    rfl
  · rw [exec_transmitFrameStart, State.transmit_of_first hrun hlife hidle htx]
    rfl
  · rw [exec_transmitFrameEnd, State.frameSent_of_sending hrun hsending]
    rfl
  · intro writing
    have hsent := State.frameSent_of_sending hrun hsending
    rw [exec_transmitFrameEnd]
    refine ⟨fun htag => ?_, fun htag hlife hwriting hmarker hstore => ?_, fun htag hlife hbusy => ?_, fun rate htag hstore => ?_⟩
    · rw [hsent, State.afterFrame_plain htag]
      rfl
    · rw [State.frameSent_restart hlife (State.not_storing_iff.mpr ⟨hwriting, hmarker, hstore⟩) hsending htag]
      rfl
    · have hstoring : s.storing ≠ false := fun h => by
        obtain ⟨hwriting, hmarker, hstore⟩ := State.not_storing_iff.mp h
        obtain hbusy | hbusy | hbusy := hbusy
        · exact hwriting hbusy
        · rw [hmarker] at hbusy
          cases hbusy
        · rw [hstore] at hbusy
          cases hbusy
      rw [hsent, State.afterFrame_restart_of_storing (s := s.transmitterIdle) htag hlife hstoring]
      rfl
    · rw [hsent, State.afterFrame_configure (s := s.transmitterIdle) htag hstore]
      rfl

end Sys2Proof.Machine
end

section
/-! SUPPORT. The checks on a taken frame (R175): dropped, answered by a status alone, or answered by its owning chapter. -/

namespace Sys2Proof.Machine

section
variable {s : State}

theorem exec_unknownRequest (type : Byte) (payload : List Byte) (s : State) :
    exec (.unknownRequest type payload) s = .next (settle s (s.takeFrame type.toNat (parseRequest type.toNat payload))) := rfl

/-! ### A frame that is dropped, or answered -/

section
variable (hlife : s.life = .on) (hshut : s.link.shut = false) {type : Nat} (p : Parsed)
include hlife hshut

theorem State.takeFrame_of_full (hfull : 4 ≤ s.link.responses) : s.takeFrame type p = s.countLinkError := by
  have hdepth : Config.responseDepth ≤ s.link.responses := hfull
  simp [State.takeFrame, hlife, hshut, hdepth]

theorem State.takeFrame_of_response (hroom : s.link.responses < 4) (htype : 0x80 ≤ type) : s.takeFrame type p = s := by
  have hdepth : ¬Config.responseDepth ≤ s.link.responses := Nat.not_le.mpr hroom
  simp [State.takeFrame, hlife, hshut, hdepth, htype]

theorem State.takeFrame_of_request (hroom : s.link.responses < 4) (htype : type < 0x80) :
    s.takeFrame type p = (s.answer type p).respond type p := by
  have hdepth : ¬Config.responseDepth ≤ s.link.responses := Nat.not_le.mpr hroom
  simp [State.takeFrame, hlife, hshut, hdepth, Nat.not_le.mpr htype]

end

/-! ### A status alone -/

/-- The end of a response that carries a refusal brings nothing (R172, R182). -/
theorem State.deny_tag (s : State) {st : Status} (hst : st ≠ .ok) (p : Parsed) : (s.deny st).tag p = .plain := by
  have hstatus : (s.deny st).status ≠ .ok := hst
  unfold Answer.tag
  split
  · exact if_neg hstatus
  · split
    · next h _ => exact absurd h hstatus
    · rfl
  · rfl

theorem State.deny_respond (s : State) {st : Status} (hst : st ≠ .ok) (type : Nat) (p : Parsed) :
    (s.deny st).respond type p = s.send { type := type + 0x80, payload := [byte st.code], tag := .plain } := by
  rw [Answer.respond, s.deny_tag hst]
  rfl

/-! ### The checks in order -/

section
variable {type level : Nat} (p : Parsed)

theorem State.answer_of_unknown (h : requestLevel type = none) : s.answer type p = s.deny .unknown := by
  simp only [State.answer, h]

theorem State.answer_of_starting (hlevel : requestLevel type = some level) (hphase : s.phase ≠ .started) (h1 : type ≠ 0x01)
    (h2 : type ≠ 0x02) : s.answer type p = s.deny .starting := by
  simp [State.answer, hlevel, hphase, h1, h2]

/-- The phase permits the request: start-up has ended, or it is Status Read or Access (R175, R193). -/
theorem State.not_starting (hready : s.phase = .started ∨ type = 0x01 ∨ type = 0x02) :
    (s.phase != .started && type != 0x01 && type != 0x02) = false := by
  obtain h | h | h := hready <;> simp [h]

theorem State.answer_of_denied (hlevel : requestLevel type = some level) (hready : s.phase = .started ∨ type = 0x01 ∨ type = 0x02)
    (haccess : s.link.access < level) : s.answer type p = s.deny .denied := by
  simp only [State.answer, hlevel, State.not_starting hready, Bool.false_eq_true, if_false, haccess, if_true]

theorem State.answer_of_misfit (hlevel : requestLevel type = some level) (hready : s.phase = .started ∨ type = 0x01 ∨ type = 0x02)
    (haccess : level ≤ s.link.access) : s.answer type .misfit = s.deny .format := by
  simp only [State.answer, hlevel, State.not_starting hready, Bool.false_eq_true, if_false, if_neg (Nat.not_lt.mpr haccess)]

end
end

/-- A type of Table 14 is a request's. -/
theorem requestLevel_lt {type level : Nat} (h : requestLevel type = some level) : type < 0x80 := by
  unfold requestLevel at h
  split at h
  case h_24 => cases h
  all_goals decide

/-- Settles O38: the frame dropped or answered, and the answer by the first check that fails. -/
theorem frameChecksInOrder : Obligations.FrameChecksInOrder := by
  intro s type payload hlife hshut result refused
  have htype : ∀ n : Byte, type = n ↔ type.toNat = n.toNat := fun n => BitVec.toNat_inj.symm
  have hrefused : s.link.responses < 4 → type.toNat < 0x80 → ∀ st, st ≠ .ok →
      s.answer type.toNat (parseRequest type.toNat payload) = s.deny st → result = refused st := fun hroom hlow st hst h => by
    refine congrArg (finish s) ?_
    rw [State.takeFrame_of_request hlife hshut _ hroom hlow, h, s.deny_respond hst]
  refine ⟨fun hfull => ?_, fun hroom => ⟨fun hhigh => ?_, fun hlow h => ?_, fun level hlevel => ?_⟩⟩
  · exact congrArg (finish s) (State.takeFrame_of_full hlife hshut _ hfull)
  · exact congrArg (finish s) (State.takeFrame_of_response hlife hshut _ hroom hhigh)
  · exact hrefused hroom hlow _ (by decide) (State.answer_of_unknown _ h)
  · have hlow := requestLevel_lt hlevel
    refine ⟨fun hphase h1 h2 => ?_, fun hready haccess => ?_, fun hready haccess hmisfit => ?_⟩
    · exact hrefused hroom hlow _ (by decide) (State.answer_of_starting _ hlevel hphase (mt (htype 0x01).mpr h1) (mt (htype 0x02).mpr h2))
    · rw [htype, htype] at hready
      exact hrefused hroom hlow _ (by decide) (State.answer_of_denied _ hlevel hready haccess)
    · rw [htype, htype] at hready
      refine hrefused hroom hlow _ (by decide) ?_
      rw [hmisfit]
      exact State.answer_of_misfit hlevel hready haccess

end Sys2Proof.Machine
end

section
/-! SUPPORT. The request frames of Table 14 (R185, R186): the number fields of a payload, and every request read back from its payload. -/

namespace Sys2Proof.Machine

/-! ### Number fields (R185) -/

theorem field16_beBytes (v : BitVec 16) : field16 (beBytes 2 v.toNat) = v := by
  rw [field16, beNat_beBytes v.isLt, BitVec.ofNat_toNat, BitVec.setWidth_eq]

theorem field32_beBytes (v : BitVec 32) : field32 (beBytes 4 v.toNat) = v := by
  rw [field32, beNat_beBytes v.isLt, BitVec.ofNat_toNat, BitVec.setWidth_eq]

theorem field48_beBytes (v : BitVec 48) : field48 (beBytes 6 v.toNat) = v := by
  rw [field48, beNat_beBytes v.isLt, BitVec.ofNat_toNat, BitVec.setWidth_eq]

/-- A number field at the front of a payload is taken apart from what follows it. -/
theorem take_beBytes_append (n v : Nat) (rest : List Byte) : (beBytes n v ++ rest).take n = beBytes n v :=
  List.take_left' (length_beBytes n v)

theorem drop_beBytes_append (n v : Nat) (rest : List Byte) : (beBytes n v ++ rest).drop n = rest :=
  List.drop_left' (length_beBytes n v)

/-! ### Requests by the shape of their payload -/

/-- A patch with its whole key (Table 16). -/
theorem parsePatch_payload (lengths : Nat → Option Nat) (make : Byte → BitVec 48 → List Byte → Request) (op : Byte) (key : BitVec 48)
    (operand : List Byte) : parsePatch lengths make (op :: (beBytes 6 key.toNat ++ operand)) = .request (make op key operand) := by
  have hlength : 6 ≤ (beBytes 6 key.toNat ++ operand).length := by simp
  rw [parsePatch, if_pos hlength, take_beBytes_append, drop_beBytes_append, field48_beBytes]

theorem parseRequest_setProtection (patchMask loadMask : Byte) (low high : BitVec 48) (complement lock : Byte) :
    parseRequest 0x15 (Request.setProtection patchMask loadMask low high complement lock).payload
      = .request (.setProtection patchMask loadMask low high complement lock) := by
  have hlength : (beBytes 6 low.toNat ++ (beBytes 6 high.toNat ++ [complement, lock])).length = 14 := by simp
  have hcomplement : (beBytes 6 low.toNat ++ (beBytes 6 high.toNat ++ [complement, lock])).getD 12 0 = complement := by
    simp
  have hlock : (beBytes 6 low.toNat ++ (beBytes 6 high.toNat ++ [complement, lock])).getD 13 0 = lock := by
    simp
  simp only [parseRequest, Request.payload, List.append_assoc, hlength, if_true, take_beBytes_append, drop_beBytes_append,
    field48_beBytes, hcomplement, hlock]

/-- Settles O37: each request by the fields of its payload. -/
theorem requestReadsBack : Obligations.RequestReadsBack := by
  intro r hr
  cases r with
  | statusRead | leave | clockAdjust | stationControl | configureRead | loadEntries | abortLoad | copyTable | printerControl | setCodesEmpty
  | restart => rfl
  | access v | commitSet v | journalRead v | journalRelease v | clearConditions v =>
    simp only [Request.typeCode, Request.payload, parseRequest, length_beBytes, if_true, field32_beBytes]
  | beginTable table v | endTable table v =>
    simp only [Request.typeCode, Request.payload, parseRequest, length_beBytes, if_true, field16_beBytes]
  | readEntry source table key =>
    simp only [Request.typeCode, Request.payload, parseRequest, length_beBytes, if_true, field48_beBytes]
  | patchBorrower op card operand => exact parsePatch_payload borrowerOperandLength .patchBorrower op card operand
  | patchItem op item operand => exact parsePatch_payload itemOperandLength .patchItem op item operand
  | configure record =>
    cases record with
    | nil => exact absurd rfl hr
    | cons b rest => rfl
  | clockSet day minute =>
    simp only [Request.typeCode, Request.payload, parseRequest, List.length_append, length_beBytes, Nat.reduceAdd, if_true,
      take_beBytes_append, drop_beBytes_append, field16_beBytes]
  | setCodes level1 level2 =>
    simp only [Request.typeCode, Request.payload, parseRequest, List.length_append, length_beBytes, Nat.reduceAdd, OfNat.ofNat_ne_zero,
      if_false, if_true, take_beBytes_append, drop_beBytes_append, field32_beBytes]
  | setProtection => exact parseRequest_setProtection ..

end Sys2Proof.Machine
end

section
/-! SUPPORT. The configuration record and its 162 bytes (R184, Table 17): the record as the fields of its layout, and every field read back. -/

namespace Sys2Proof.Machine

/-! ### Layouts taken apart (R185) -/

/-- What a group of fields is followed by stands behind its width. -/
theorem drop_layout {b : List Byte} {n : Nat} {group rest : List (Nat × Nat)} (h : b.drop n = layout (group ++ rest)) {m : Nat}
    (hm : n + widthOf group = m) : b.drop m = layout rest := by
  rw [← hm, ← List.drop_drop, h, layout_append, ← length_layout, List.drop_left]

/-- A group of fields reads back from the front of any others. -/
theorem readsAll_layout {group : List (Nat × Nat)} (hfit : FieldsFit group) (rest : List (Nat × Nat)) :
    ReadsAll (layout (group ++ rest)) 0 group :=
  readsAll_of_spells (spellsAll_append (spellsAll_layout _)).left hfit

theorem beField_drop (b : List Byte) (n i width : Nat) : beField (b.drop n) i width = beField b (n + i) width := by
  rw [beField, beField, List.drop_drop]

/-! ### Codes (Table 15) -/

theorem Mode.ofCode_code (m : Mode) : Mode.ofCode m.code = some m := by cases m <;> rfl

theorem Mode.code_lt (m : Mode) : m.code < 256 := by cases m <;> decide

theorem flagBit_zero_le (b : Bool) : flagBit b 0 ≤ 1 := by cases b <;> decide

theorem flagBit_zero_beq (b : Bool) : (flagBit b 0 == 1) = b := by cases b <;> rfl

theorem markByte_eq_flagBit (b : Bool) : markByte b = byte (flagBit b 0) := by cases b <;> rfl

/-! ### A station's group -/

/-- The fields of a station's group (Table 17). -/
def StationConfig.fields (c : StationConfig) : List (Nat × Nat) :=
  [(1, c.rate), (1, c.dataBits), (1, c.parity), (1, c.mode.code), (1, flagBit c.selectorEnabled 0), (1, flagBit c.slipsEnabled 0)]

theorem StationConfig.bytes_eq (c : StationConfig) : c.bytes = layout c.fields := by
  simp [StationConfig.bytes, StationConfig.fields, beBytes_one, markByte_eq_flagBit]

theorem StationConfig.fields_fit {c : StationConfig} (h : c.InRange) : FieldsFit c.fields := by
  obtain ⟨hrate, hbits, hparity⟩ := h
  have hmode := c.mode.code_lt
  have hselector := flagBit_zero_le c.selectorEnabled
  have hslips := flagBit_zero_le c.slipsEnabled
  simp only [StationConfig.fields, fieldsFit_cons, fieldsFit_nil, and_true]
  omega

theorem StationConfig.ofBytes_of_reads {c : StationConfig} (h : c.InRange) {b : List Byte} (hreads : ReadsAll b 0 c.fields) :
    StationConfig.ofBytes b = some c := by
  obtain ⟨hrate, hbits, hparity⟩ := h
  simp only [StationConfig.fields, ReadsAll, Nat.reduceAdd] at hreads
  simp only [StationConfig.ofBytes, byteAt_eq_beField, hreads, Mode.ofCode_code, hrate, hbits, hparity, flagBit_zero_le, flagBit_zero_beq,
    and_self, if_true]

/-- A station's group in range reads back from the front of any fields (R184). -/
theorem StationConfig.ofBytes_layout {c : StationConfig} (h : c.InRange) (rest : List (Nat × Nat)) :
    StationConfig.ofBytes (layout (c.fields ++ rest)) = some c :=
  StationConfig.ofBytes_of_reads h (readsAll_layout (StationConfig.fields_fit h) rest)

/-! ### A text -/

/-- The fields of a text: its length, and its characters padded with 0 (Table 17). -/
def textFields (width : Nat) (t : List Byte) : List (Nat × Nat) :=
  (1, t.length) :: byteFields (t ++ List.replicate (width - t.length) 0)

theorem layout_textFields (width : Nat) (t : List Byte) : layout (textFields width t) = textBytes width t := by
  rw [textFields, layout_cons, layout_byteFields, beBytes_one, textBytes, List.singleton_append]

theorem widthOf_textFields {width : Nat} {t : List Byte} (h : textInRange width t) : widthOf (textFields width t) = width + 1 := by
  obtain ⟨hlength, -⟩ := h
  rw [textFields, widthOf_cons, widthOf_byteFields, List.length_append, List.length_replicate]
  omega

/-- A text in range reads back from the front of any fields (R184). -/
theorem textOf_layout {width : Nat} {t : List Byte} (h : textInRange width t) (hwidth : width < 256) (rest : List (Nat × Nat)) :
    textOf width (layout (textFields width t ++ rest)) = some t := by
  obtain ⟨hlength, hchars⟩ := h
  rw [layout_append, layout_textFields]
  have hcount : byteAt (textBytes width t ++ layout rest) 0 = t.length := by
    simp only [textBytes, byteAt, List.cons_append, List.getD_cons_zero]
    exact toNat_byte (by omega)
  have htext : ((textBytes width t ++ layout rest).drop 1).take t.length = t := by
    simp [textBytes]
  have hpadding :
      ((textBytes width t ++ layout rest).drop (1 + t.length)).take (width - t.length) = List.replicate (width - t.length) 0 := by
    simp [textBytes, Nat.add_comm 1]
  have hshown : (t.all fun c => decide (0x20 ≤ c.toNat ∧ c.toNat ≤ 0x7E)) = true := by simpa using hchars
  have hzeros : (List.replicate (width - t.length) (0 : Byte)).all (· == 0) = true := by simp
  simp only [textOf, hcount, htext, hpadding, hshown, hzeros, hlength, and_self, if_true]

/-! ### The record -/

/-- The fields between the stations' groups and the override levels (Table 17). -/
def ConfigRecord.figures (c : ConfigRecord) : List (Nat × Nat) :=
  [(1, c.printerRate), (1, c.linkRate), (2, c.idleTimeout), (1, c.slipWait), (1, flagBit c.guestMode 0), (1, c.guestCategory)]

/-- The fields between the override levels and the texts (Table 17). -/
def ConfigRecord.masks (c : ConfigRecord) : List (Nat × Nat) :=
  [(2, c.highWater), (4, c.deskMask.toNat), (4, c.noticeMask.toNat)]

/-- The fields of a configuration record (Table 17). -/
def ConfigRecord.fields (c : ConfigRecord) : List (Nat × Nat) :=
  c.stations[0].fields ++ (c.stations[1].fields ++ (c.stations[2].fields ++ (c.stations[3].fields ++ (c.figures
    ++ (byteFields (c.levels.map byte) ++ (c.masks ++ (textFields 24 c.title ++ (textFields 32 c.footer1 ++ (textFields 32 c.footer2
      ++ byteFields (List.replicate 9 0))))))))))

theorem perStation_eq {α : Type} (v : PerStation α) : v = #v[v[0], v[1], v[2], v[3]] := by
  ext i hi
  match i, hi with
  | 0, _ | 1, _ | 2, _ | 3, _ => rfl

theorem ConfigRecord.bytes_eq (c : ConfigRecord) : c.bytes = layout c.fields := by
  have hstations : c.stations.toList = [c.stations[0], c.stations[1], c.stations[2], c.stations[3]] :=
    congrArg Vector.toList (perStation_eq c.stations)
  simp [ConfigRecord.bytes, ConfigRecord.fields, hstations, StationConfig.bytes_eq, ConfigRecord.figures, ConfigRecord.masks,
    layout_byteFields, layout_textFields, beBytes_one, markByte_eq_flagBit]

theorem ConfigRecord.figures_fit {c : ConfigRecord} (h : c.InRange) : FieldsFit c.figures := by
  obtain ⟨-, hprinter, hlink, -, hidle, hslip, hguest, -⟩ := h
  have hmode := flagBit_zero_le c.guestMode
  simp only [ConfigRecord.figures, fieldsFit_cons, fieldsFit_nil, and_true]
  omega

theorem ConfigRecord.masks_fit {c : ConfigRecord} (h : c.InRange) : FieldsFit c.masks := by
  obtain ⟨-, -, -, -, -, -, -, -, -, -, hhigh, -⟩ := h
  simp only [ConfigRecord.masks, fieldsFit_cons, fieldsFit_nil, and_true]
  exact ⟨by omega, c.deskMask.isLt, c.noticeMask.isLt⟩

/-- The override levels read back from their bytes (R39). -/
theorem levels_readBack {levels : List Nat} (h : levelsAllowed levels = true) : (levels.map byte).map (·.toNat) = levels := by
  have hsmall : ∀ l ∈ levels, l ≤ 2 := by
    have hall := (Bool.and_eq_true_iff.mp h).right
    simpa using hall
  rw [List.map_map]
  exact (List.map_congr_left fun l hl => toNat_byte (by have := hsmall l hl; omega)).trans (List.map_id _)

theorem ConfigRecord.length_bytes {c : ConfigRecord} (h : c.InRange) : c.bytes.length = 162 := by
  obtain ⟨-, -, -, -, -, -, -, hlevels, -, -, -, -, -, htitle, hfooter1, hfooter2⟩ := h
  rw [ConfigRecord.bytes_eq, length_layout]
  simp only [ConfigRecord.fields, widthOf_append, widthOf_textFields htitle, widthOf_textFields hfooter1, widthOf_textFields hfooter2,
    widthOf_byteFields, List.length_map, hlevels]
  rfl

/-- Every group of fields reads back from where it stands (R184). -/
theorem ConfigRecord.ofBytes_bytes {c : ConfigRecord} (h : c.InRange) : ConfigRecord.ofBytes c.bytes = some c := by
  have hfigures := ConfigRecord.figures_fit h
  have hmasks := ConfigRecord.masks_fit h
  obtain ⟨hstations, hprinter, hlink, hidle, hidle', hslip, hguest, hcount, hallowed, hhigh, hhigh', hdesk, hnotice, htitle, hfooter1,
    hfooter2⟩ := h
  generalize hb : c.bytes = b
  have at0 : b.drop 0 = layout c.fields := by rw [← hb, ConfigRecord.bytes_eq]; rfl
  have at6 := drop_layout at0 (m := 6) rfl
  have at12 := drop_layout at6 (m := 12) rfl
  have at18 := drop_layout at12 (m := 18) rfl
  have at24 := drop_layout at18 (m := 24) rfl
  have at31 := drop_layout at24 (m := 31) rfl
  have at52 := drop_layout at31 (m := 52) (by rw [widthOf_byteFields, List.length_map, hcount])
  have at62 := drop_layout at52 (m := 62) rfl
  have at87 := drop_layout at62 (m := 87) (by rw [widthOf_textFields htitle])
  have at120 := drop_layout at87 (m := 120) (by rw [widthOf_textFields hfooter1])
  have at153 := drop_layout at120 (m := 153) (by rw [widthOf_textFields hfooter2])
  have station0 : StationConfig.ofBytes b = some c.stations[0] := by
    rw [← List.drop_zero (l := b), at0]
    exact StationConfig.ofBytes_layout (hstations 0) _
  have station1 : StationConfig.ofBytes (b.drop 6) = some c.stations[1] := by rw [at6]; exact StationConfig.ofBytes_layout (hstations 1) _
  have station2 : StationConfig.ofBytes (b.drop 12) = some c.stations[2] := by rw [at12]; exact StationConfig.ofBytes_layout (hstations 2) _
  have station3 : StationConfig.ofBytes (b.drop 18) = some c.stations[3] := by rw [at18]; exact StationConfig.ofBytes_layout (hstations 3) _
  have figures : ReadsAll (b.drop 24) 0 c.figures := by rw [at24]; exact readsAll_layout hfigures _
  have masks : ReadsAll (b.drop 52) 0 c.masks := by rw [at52]; exact readsAll_layout hmasks _
  simp only [ConfigRecord.figures, ConfigRecord.masks, ReadsAll, beField_drop, Nat.reduceAdd] at figures masks
  have levels : ((b.drop 31).take 21).map (·.toNat) = c.levels := by
    rw [at31, layout_append, layout_byteFields, List.take_left' (by rw [List.length_map, hcount]), levels_readBack hallowed]
  have title : textOf 24 (b.drop 62) = some c.title := by rw [at62, textOf_layout htitle (by decide)]
  have footer1 : textOf 32 (b.drop 87) = some c.footer1 := by rw [at87, textOf_layout hfooter1 (by decide)]
  have footer2 : textOf 32 (b.drop 120) = some c.footer2 := by rw [at120, textOf_layout hfooter2 (by decide)]
  have padding : (b.drop 153).all (· == 0) = true := by
    rw [at153, layout_byteFields]
    rfl
  simp only [ConfigRecord.ofBytes, station0, station1, station2, station3, title, footer1, footer2, levels, padding, byteAt_eq_beField,
    figures, masks, hprinter, hlink, hidle, hidle', hslip, hguest, hallowed, hhigh, hhigh', hdesk, hnotice, flagBit_zero_le,
    flagBit_zero_beq, BitVec.ofNat_toNat, BitVec.setWidth_eq, and_self, if_true]
  exact congrArg (fun v => some { c with stations := v }) (perStation_eq c.stations).symm

/-- Settles O54: the length by the fields' widths, the record by its groups of fields. -/
theorem configReadsBack : Obligations.ConfigReadsBack := fun _ h => ⟨ConfigRecord.length_bytes h, ConfigRecord.ofBytes_bytes h⟩

end Sys2Proof.Machine
end

section
/-! SUPPORT. Clear Conditions (R189): what the clearing of several conditions leaves, whatever their order, and the bits of a mask. -/

namespace Sys2Proof.Machine

/-! ### The conditions that are cleared (R189) -/

/-- The latched conditions and the counters of the channels and the link once the conditions that `p` names are cleared (R189). -/
def State.cleared (s : State) (p : Condition → Bool) : State :=
  { s with
    latched :=
      { slipDropped := s.latched.slipDropped && !p .slipDropped, lostCardPresented := s.latched.lostCardPresented && !p .lostCardPresented,
        itemAlert := s.latched.itemAlert && !p .itemAlert, commitFailed := s.latched.commitFailed && !p .commitFailed,
        linkErrors := s.latched.linkErrors && !p .linkErrors,
        wandFault := Vector.ofFn fun i : Fin 4 => s.latched.wandFault[i] && !p (.wandFault i) },
    channels := Vector.ofFn fun i : Fin 4 =>
      if p (.wandFault i) then { s.channels[i] with errors := 0, overrun := false } else s.channels[i],
    link := if p .linkErrors then { s.link with errors := 0 } else s.link }

/-- With no condition named, nothing changes. -/
theorem State.cleared_none (s : State) : s.cleared (fun _ => false) = s := by
  simp [State.cleared]

/-- The station whose element is replaced reads the new one, every other its own. -/
theorem perStation_getElem_set {α : Type} (v : PerStation α) (i : Station) (x : α) (j : Fin 4) :
    (v.set i x)[j] = if j = i then x else v[j] := by
  simp [Vector.getElem_set, Fin.ext_iff, eq_comm]

/-- One condition cleared and then those that `p` names: all of them cleared. -/
theorem State.cleared_clearCondition (s : State) (c : Condition) (p : Condition → Bool) :
    (s.clearCondition c).cleared p = s.cleared fun d => decide (d = c) || p d := by
  cases c with
  | wandFault i =>
    simp only [State.cleared, State.clearCondition, Latched.put, perStation_getElem_set, Condition.wandFault.injEq, reduceCtorEq,
      decide_false, Bool.false_or, State.mk.injEq, Latched.mk.injEq, true_and]
    refine ⟨congrArg Vector.ofFn (funext fun j => ?_), congrArg Vector.ofFn (funext fun j => ?_)⟩
    · by_cases h : j = i <;> simp [h]
    · by_cases h : j = i <;> simp [h]
  | _ => simp [State.cleared, State.clearCondition, Latched.put]

/-- Conditions cleared one after another: the order and the repetitions do not matter. -/
theorem State.foldl_clearCondition (l : List Condition) (s : State) :
    l.foldl State.clearCondition s = s.cleared fun c => decide (c ∈ l) := by
  induction l generalizing s with
  | nil => simp [State.cleared_none]
  | cons c rest ih =>
    rw [List.foldl_cons, ih, State.cleared_clearCondition]
    simp [Bool.decide_or]

/-- A mask clears the conditions whose bits it has, and under bit 31 the unrecorded-refusal counter (R189). -/
theorem State.clearConditions_eq (s : State) (mask : BitVec 32) :
    s.clearConditions mask
      = { s.cleared fun c => mask.getLsbD c.bit with
          engine := if mask.getLsbD 31 then { s.engine with unrecorded := 0 } else s.engine } := by
  have hfold : (Condition.all.filter fun c => mask.getLsbD c.bit).foldl State.clearCondition s
      = s.cleared fun c => mask.getLsbD c.bit := by
    rw [State.foldl_clearCondition]
    simp [List.mem_filter, Condition.mem_all]
  rw [State.clearConditions, hfold]
  split <;> rfl

/-! ### The bits of the mask -/

/-- The bits that no condition has (R189). -/
theorem unusedBits_getLsbD {k : Nat} (hk : k < 32) : (0x7FFC0000 : BitVec 32).getLsbD k = decide (18 ≤ k ∧ k ≤ 30) := by
  have hall : ∀ i : Fin 32, (0x7FFC0000 : BitVec 32).getLsbD i.val = decide (18 ≤ i.val ∧ i.val ≤ 30) := by decide
  exact hall ⟨k, hk⟩

theorem mask_unused_iff (mask : BitVec 32) : mask &&& 0x7FFC0000 = 0 ↔ ∀ k, 18 ≤ k → k ≤ 30 → mask.getLsbD k = false := by
  constructor
  · intro h k hlow hhigh
    have hbit : (mask &&& 0x7FFC0000).getLsbD k = false := by rw [h]; exact BitVec.getLsbD_zero
    rwa [BitVec.getLsbD_and, unusedBits_getLsbD (by omega), decide_eq_true ⟨hlow, hhigh⟩, Bool.and_true] at hbit
  · intro h
    refine BitVec.eq_of_getLsbD_eq fun k hk => ?_
    refine Eq.trans ?_ BitVec.getLsbD_zero.symm
    rw [BitVec.getLsbD_and, unusedBits_getLsbD hk]
    by_cases hunused : 18 ≤ k ∧ k ≤ 30
    · obtain ⟨hlow, hhigh⟩ := hunused
      rw [h k hlow hhigh, Bool.false_and]
    · rw [decide_eq_false hunused, Bool.and_false]

/-- Settles O48: the mask's unused bits decide the answer, and each bit it uses clears what it names. -/
theorem clearConditionsClears : Obligations.ClearConditionsClears := by
  intro s mask hs
  have hserved : ∀ a : Answer, s.answerClear mask = a → a.tag (.request (.clearConditions mask)) = .plain →
      exec (.clearConditions mask) s = .next (answered s a.state 0x94 (byte a.status.code :: a.fields)) := fun a =>
    exec_served (.clearConditions mask) rfl rfl hs rfl
  refine ⟨fun ⟨k, hlow, hhigh, hbit⟩ => ?_, fun hclear => ?_⟩
  · have hunused : mask &&& 0x7FFC0000 ≠ 0 := fun h => by
      rw [(mask_unused_iff mask).mp h k hlow hhigh] at hbit
      cases hbit
    exact hserved (s.deny .range) (if_pos hunused) rfl
  · have hzero := (mask_unused_iff mask).mpr hclear
    have hdone : s.answerClear mask = (s.clearConditions mask).done := if_neg (not_not_intro hzero)
    rw [State.clearConditions_eq] at hdone
    exact hserved _ hdone rfl

end Sys2Proof.Machine
end

section
/-! SUPPORT. The factory part (R195): what power-on makes of it (R191, R192), and the invariants at its start. -/

namespace Sys2Proof.Machine

open Config

/-! ### Power-on of a part with the factory values (R192, R195) -/

/-- No table of the factory part is being loaded or copied (R124, R125). -/
theorem TableStore.factory_afterReset : TableStore.factory.afterReset = TableStore.factory := by
  simp [TableStore.afterReset, TableStore.factory, Standby.afterReset, Standby.empty]

/-- The Journal's reset keeps its nonvolatile state alone (R145, R195). -/
theorem Journal.afterReset_eq_factory {j : Journal} (hslots : j.slots = []) (hreleased : j.released = 0) (hmarker : j.eraseMarker = none)
    (htorn : j.tornMark = false) (herased : j.erasedAgainMark = false) : j.afterReset = Journal.factory := by
  simp only [Journal.afterReset, Journal.factory, hslots, hreleased, hmarker, htorn, herased]

/-- The link's reset keeps the codes alone, and both all ones give access level 2 (R172, R178). -/
theorem Link.afterReset_eq_factory {l : Link} (h1 : l.code1 = 0xFFFFFFFF) (h2 : l.code2 = 0xFFFFFFFF) : l.afterReset 1 = Link.factory := by
  simp only [Link.afterReset, Link.factory, Link.startLevel, h1, h2, if_true]

/-- A record that routes no condition to notices begins none (R177). -/
theorem settle_of_no_notices {s t : State} (h : t.config.noticeMask = 0) : settle s t = t := by
  refine settle_of_not_begins fun ⟨_, hbegins⟩ => ?_
  obtain ⟨c, -, -, hbit⟩ := (activated_iff s t).mp hbegins
  simp [h] at hbit

/-- Settles O3: each block's reset gives its factory value, and the factory record routes no notice. -/
theorem resetIsFirstPowerOn : Obligations.ResetIsFirstPowerOn := by
  intro s hlife hpending hpins hready hline htables hconfig hslots hreleased hmarker htorn herased hcode1 hcode2
  have hjournal := Journal.afterReset_eq_factory hslots hreleased hmarker htorn herased
  have hlink : s.link.afterReset ConfigRecord.factory.linkRate = Link.factory := Link.afterReset_eq_factory hcode1 hcode2
  have hstart : s.powerOn = { State.reset with draws := s.draws } := by
    simp only [State.powerOn, State.startUp, State.resetBlocks, hjournal, hlink, htables, TableStore.factory_afterReset, hpending, hpins,
      hready, hline, hconfig]
    rfl
  rw [exec_powerOn hlife, hstart, settle_of_no_notices rfl]

/-! ### The invariants at reset (R195) -/

theorem State.reset_channelsWf : State.reset.ChannelsWf := fun i => by
  simpa [State.reset] using Channel.afterReset_wf

theorem Link.factory_wf : Link.factory.Wf := by
  rw [← Link.afterReset_eq_factory (l := Link.factory) rfl rfl]
  exact Link.afterReset_wf ..

theorem Protection.factory_wf : Protection.factory.Wf := by decide

theorem StationConfig.factory_inRange : StationConfig.factory.InRange := by decide

theorem ConfigRecord.factory_inRange : ConfigRecord.factory.InRange := by
  refine ⟨fun i => ?_, by decide, by decide, by decide, by decide, by decide, by decide, by decide, by decide, by decide, by decide,
    by decide, by decide, ⟨by decide, nofun⟩, ⟨by decide, nofun⟩, ⟨by decide, nofun⟩⟩
  simpa [ConfigRecord.factory] using StationConfig.factory_inRange

theorem State.reset_settingsWf : State.reset.SettingsWf :=
  ⟨Clock.afterPowerOn_wf, Protection.factory_wf, ConfigRecord.factory_inRange, nofun⟩

/-- The factory store has nothing written, nothing to erase and no loan (R195). -/
theorem State.reset_storeWf : State.reset.StoreWf := ⟨slotsWf_reset, nofun, nofun, rfl⟩

/-- Settles O60, block by block. -/
theorem invariantsHoldAtReset : Obligations.InvariantsHoldAtReset :=
  ⟨State.reset_channelsWf, SlipUnit.afterReset_wf, Link.factory_wf, State.reset_settingsWf, State.reset_storeWf⟩

end Sys2Proof.Machine
end

section
/-! SUPPORT. The queue of commands (log 2): a step takes its front, and no command touches it. Operations without a lemma in the Laws on what
they leave are treated here, and then every command. -/

namespace Sys2Proof.Machine

section
variable {s : State}

/-! ### Timers of a waiting slip (R44, R46) -/

@[simp] theorem State.dropWaiting_pending (i : Station) (slip : Slip) : (s.dropWaiting i slip).pending = s.pending := by
  simp [State.dropWaiting, State.endWait]

@[simp] theorem State.takeWaiting_pending (i : Station) (slip : Slip) : (s.takeWaiting i slip).pending = s.pending := by
  simp [State.takeWaiting, State.endWait]

/-! ### Completions (R115, R136, R141, R184) -/

@[simp] theorem State.completeWrite_pending : s.completeWrite.pending = s.pending := by
  unfold State.completeWrite
  split <;> simp

@[simp] theorem State.endReplay_pending : s.endReplay.pending = s.pending := by
  unfold State.endReplay
  dsimp only
  repeat' split
  all_goals rfl

theorem State.stationStored_pending (old : State) (i : Station) : (State.stationStored old s i).pending = s.pending := by
  unfold State.stationStored State.lineChanged
  rw [State.modeChanged_pending]
  split <;> simp

@[simp] theorem State.rateStored_pending : s.rateStored.pending = s.pending := by
  unfold State.rateStored
  split <;> rfl

@[simp] theorem State.configureDone_pending (c : ConfigRecord) : (s.configureDone c).pending = s.pending := by
  unfold State.configureDone
  rw [State.rateStored_pending]
  exact List.foldlRecOn (motive := fun t : State => t.pending = s.pending) _ _ rfl
    fun _ ht i _ => (State.stationStored_pending s i).trans ht

/-! ### Starting again and a power loss (R143, R192) -/

@[simp] theorem State.restartNow_pending : s.restartNow.pending = s.pending := by
  obtain e | ⟨e, -⟩ := State.restartNow_cases s <;> rw [e]
  rfl

@[simp] theorem State.repaired_pending : s.repaired.pending = s.pending := by
  unfold State.repaired
  split <;> rfl

@[simp] theorem State.enterReset_pending : s.enterReset.pending = s.pending := by
  obtain e | ⟨e, -⟩ | ⟨e, -⟩ := State.enterReset_cases s <;> rw [e]
  · exact State.repaired_pending
  · exact State.repaired_pending

@[simp] theorem State.resetReleased_pending : s.resetReleased.pending = s.pending := by
  unfold State.resetReleased
  dsimp only
  split <;> rfl

@[simp] theorem State.losePower_pending (left : SlotCut) (stored : Bool) : (s.losePower left stored).pending = s.pending := by
  unfold State.losePower
  split <;> rfl

/-! ### Requests (R175 to R189) -/

@[simp] theorem State.answerStationControl_pending (station action mode : Byte) :
    (s.answerStationControl station action mode).state.pending = s.pending := by
  unfold State.answerStationControl
  repeat' split
  all_goals simp [State.done, State.deny]

@[simp] theorem State.answerPrinter_pending (action : Nat) : (s.answerPrinter action).state.pending = s.pending := by
  unfold State.answerPrinter
  repeat' split
  all_goals simp [State.done, State.deny]

@[simp] theorem State.answerClear_pending (mask : BitVec 32) : (s.answerClear mask).state.pending = s.pending := by
  unfold State.answerClear
  split <;> simp [State.done, State.deny]

/-- What a request does, it does to the blocks. -/
@[simp] theorem State.serve_pending (r : Request) : (s.serve r).state.pending = s.pending := by
  cases r with
  | stationControl => exact State.answerStationControl_pending ..
  | printerControl => exact State.answerPrinter_pending _
  | clearConditions => exact State.answerClear_pending _
  | readEntry => rw [State.serve, State.answerReadEntry_state]
  | access | leave | configureRead | journalRead | journalRelease | setCodes | setCodesEmpty | restart => rfl
  | statusRead =>
    simp only [State.serve, State.statusRead]
    split <;> rfl
  | clockSet | clockAdjust | configure =>
    simp only [State.serve, State.answerClockSet, State.answerClockAdjust, State.answerConfigure]
    repeat' split
    all_goals rfl
  | beginTable | loadEntries | endTable | abortLoad =>
    simp only [State.serve, State.answerBeginTable, State.answerLoadEntries, State.answerEndTable, State.answerAbortLoad]
    repeat' split
    all_goals rfl
  | copyTable | commitSet | patchBorrower | patchItem | setProtection =>
    simp only [State.serve, State.answerCopyTable, State.answerCommitSet, State.answerPatch, State.answerSetProtection]
    repeat' split
    all_goals rfl

/-! ### The link (R172 to R182) -/

@[simp] theorem State.takeFrame_pending (type : Nat) (p : Parsed) : (s.takeFrame type p).pending = s.pending := by
  obtain e | ⟨e, -⟩ | ⟨e, -⟩ := State.takeFrame_cases s type p <;> rw [e]
  · exact State.countLinkError_pending s
  · obtain ⟨st, ea⟩ | ⟨r, -, -, ea⟩ := State.answer_cases s type p <;> rw [ea]
    · rfl
    · exact State.serve_pending r

@[simp] theorem State.linkCharacter_pending (b : Byte) (stop : Bool) : (s.linkCharacter b stop).pending = s.pending := by
  obtain e | e | ⟨e, -⟩ | ⟨e, -⟩ | ⟨type, payload, -, e⟩ := State.linkCharacter_cases s b stop <;> rw [e] <;> simp

theorem State.afterFrame_pending (item : TxItem) : (s.afterFrame item).pending = s.pending := by
  unfold State.afterFrame State.restartSent
  repeat' split
  all_goals simp

@[simp] theorem State.frameSent_pending : s.frameSent.pending = s.pending := by
  unfold State.frameSent
  split
  · exact State.afterFrame_pending _
  · rfl

/-! ### Every command -/

/-- The block goes on, with the same commands waiting. -/
def GoesOn (s : State) (o : Host.Outcome State Fault Refusal) : Prop := ∃ t, o = .next t ∧ t.pending = s.pending

theorem goesOn_finish {t : State} (h : t.pending = s.pending) : GoesOn s (finish s t) := ⟨_, finish_next s t, (settle_pending s t).trans h⟩

theorem goesOn_finishStore {t : State} (h : t.pending = s.pending) : GoesOn s (finishStore s t) :=
  ⟨_, finishStore_next s t, by simp [h]⟩

/-- A guarded effect leaves the queue when the effect does. -/
theorem ite_pending {t u : State} {c : Prop} [Decidable c] (h : t.pending = s.pending) (hu : u.pending = s.pending) :
    (if c then u else t).pending = s.pending := by
  split
  · exact hu
  · exact h

end

theorem exec_goesOn (c : Instr) (s : State) : GoesOn s (exec c s) := by
  cases c with
  | wandCharacterComplete => exact goesOn_finish (ite_pending rfl (State.wandComplete_pending ..))
  | assemblerStep => exact goesOn_finish (ite_pending rfl (State.assemblerStep_pending ..))
  | gapTimerExpiry => exact goesOn_finish (ite_pending rfl (State.fragment_pending ..))
  | selectorChange i level => exact goesOn_finish (ite_pending rfl (State.modeChanged_pending ..))
  | arbiterGrant => exact goesOn_finish (State.grant_pending s)
  | idleTimerExpiry => exact goesOn_finish (ite_pending rfl (State.beginClose_pending ..))
  | slipWaitExpiry | slipReoffer =>
    refine goesOn_finish ?_
    split <;> simp
  | journalTurn => exact goesOn_finish (State.turn_pending s)
  | recordWriteCompletion => exact goesOn_finishStore State.completeWrite_pending
  | replayEnd => exact goesOn_finish State.endReplay_pending
  | eraseComplete => exact goesOn_finishStore (ite_pending rfl rfl)
  | copyEnd =>
    refine goesOn_finish ?_
    split <;> rfl
  | validationEnd => exact goesOn_finish (ite_pending rfl (State.endValidation_pending s))
  | configureStoreComplete =>
    refine goesOn_finishStore ?_
    split <;> simp
  | linkCharacter => exact goesOn_finish (State.linkCharacter_pending ..)
  | transmitFrameStart => exact goesOn_finish (State.transmit_pending s)
  | transmitFrameEnd => exact goesOn_finish State.frameSent_pending
  | resetLineAssert => exact goesOn_finish (State.resetAsserted_pending (s := s))
  | resetEntered => exact goesOn_finish State.enterReset_pending
  | resetLineRelease => exact goesOn_finish State.resetReleased_pending
  | powerLoss => exact goesOn_finish (State.losePower_pending ..)
  | wandCharacterStart | wandWaitMarkEnd | outcomePatternTimer | outcomePatternEnd | staffWindowExpiry | paperOutChange
  | maintenanceChange | eraseStart | timebaseEdge | timebaseLoss | printerByteAccepted | printerReadyChange | printerStallExpiry
  | linkGapTimeout | linkWaitMarkEnd | linkBreak | powerOn | recoveryComplete =>
    exact goesOn_finish (ite_pending rfl rfl)
  | _ => exact goesOn_finish (State.takeFrame_pending ..)

/-- Settles O2: every command ends in `finish` or `finishStore`, of an effect that leaves the queue. -/
theorem everyCommandAnswersNext : Obligations.EveryCommandAnswersNext := exec_goesOn

/-! ### The step (log 2) -/

theorem step_of_cons {s : State} {c : Instr} {rest : List Instr} (h : s.pending = c :: rest) :
    step s = exec c { s with pending := rest } := by
  simp only [step, h]

theorem step_of_nil {s : State} (h : s.pending = []) : step s = .next s := by
  simp only [step, h]

/-- Settles O1, by the two forms of the queue. -/
theorem stepTakesFrontCommand : Obligations.StepTakesFrontCommand := fun _ => ⟨fun _ _ => step_of_cons, step_of_nil⟩

end Sys2Proof.Machine
end
